-- ==== Sys2Proof/Word.lean ====
section
/-! DEFINITION. Sys2Proof/Word.lean: the fixed widths of the block (00_scope.md R9, 30_encoding.md R81, R82). -/

namespace Sys2Proof

/-- A bus data byte, a bus register address, a mode or prescale register: 8 bits (R9). -/
abbrev Byte := BitVec 8

/-- A command word: 64 bits, delivered whole on a port (R82). -/
abbrev Word := BitVec 64

/-- A bus device address: 7 bits (R81). -/
abbrev DevAddr := BitVec 7

/-- A CoilState: bit k is element k of the tuple
(winding1-IN2, winding2-IN1, winding1-IN1, winding2-IN2) (R88). -/
abbrev CoilState := BitVec 4

end Sys2Proof
end

