-- ==== Sys2Proof/Config.lean ====
section
/-! DEFINITION. Sys2Proof/Config.lean: the implementation parameters (00_scope.md R8), the check that refuses a bad
configuration (60_exceptions.md R207), and the free values. An OPEN parameter is an argument of the model: it stands in
`Params`, which `State` carries unchanged, so that a statement about every state quantifies over it (log 1). -/

namespace Sys2Proof

/-- NUM_CHANNELS (R8). -/
def numChannels : Nat := 16

/-- TICK_MAX (R8). -/
def tickMax : Nat := 4095

/-- TICK_SENTINEL (R8). -/
def tickSentinel : Nat := 4096

/-- OSC_HZ (R8). -/
def oscHz : Rat := 25000000

/-- WRITE_DIV (R8; 90_conflicts.md C2). -/
def writeDiv : Rat := 4095

/-- READ_DIV (R8; 90_conflicts.md C2). -/
def readDiv : Rat := 4096

/-- WAIT_MS, a lower bound in milliseconds (R8). -/
def waitMs : Rat := 5

/-- TABLE_LEN (R8). -/
def tableLen : Nat := 4

/-- GENERAL_CALL_ADDR (R8, marked there as general knowledge: PRESUMED, log 6). -/
def generalCallAddr : Nat := 0

/-- WIRING: W1 = (pwm1, in1_1, in2_1) and W2 = (pwm2, in1_2, in2_2), six channel numbers (R8). -/
structure Wiring where
  pwm1 : Nat
  in1_1 : Nat
  in2_1 : Nat
  pwm2 : Nat
  in1_2 : Nat
  in2_2 : Nat
deriving DecidableEq, Repr

/-- The six channels of the wiring. -/
def Wiring.channels (w : Wiring) : List Nat := [w.pwm1, w.in1_1, w.in2_1, w.pwm2, w.in1_2, w.in2_2]

/-- The parameters a block is instantiated with (R8, R29). Their types admit the values that R207 refuses. -/
structure Params where
  /-- DEVICE_ADDR -/
  deviceAddr : Nat
  /-- RESET_TARGET_ADDR -/
  resetTarget : Nat
  /-- PULSES_PER_SECOND -/
  pulsesPerSecond : Rat
  /-- WIRING -/
  wiring : Wiring
  /-- COIL_TABLE -/
  coilTable : Vector CoilState 4
  /-- NUM_PORTS -/
  numPorts : Nat
deriving DecidableEq, Repr

/-- Exactly one element of the tuple is 1 (R162). -/
def oneHot (c : CoilState) : Bool := (List.range 4).countP (fun k => c.getLsbD k) == 1

/-- The configuration check: none of the refusals of R207 holds. -/
def Params.ok (p : Params) : Bool :=
  p.wiring.channels.all (fun ch => decide (ch < numChannels)) &&
  decide p.wiring.channels.Nodup &&
  p.coilTable.all oneHot &&
  decide (0 < p.pulsesPerSecond) &&
  decide (1 ≤ p.numPorts) &&
  decide (p.deviceAddr ≤ 0x7F) &&
  (p.resetTarget == generalCallAddr || p.resetTarget == p.deviceAddr)

/-- The 7-bit device address the driver's transactions go to (R50, R81). -/
def Params.dev (p : Params) : DevAddr := BitVec.ofNat 7 p.deviceAddr

/-- The 7-bit address SWRESET's command byte goes to (R50, R81). -/
def Params.resetDev (p : Params) : DevAddr := BitVec.ofNat 7 p.resetTarget

/-- The target interval of one STEP iteration in ms, exact: 1000 / PULSES_PER_SECOND (R180). -/
def Params.interval (p : Params) : Rat := 1000 / p.pulsesPerSecond

/-- COIL_TABLE's default, the identity table of R162. -/
def identityCoilTable : Vector CoilState 4 := #v[0b0001#4, 0b0010#4, 0b0100#4, 0b1000#4]

/-- The example configuration of 95_test_vectors.md section 0. -/
def exampleParams : Params where
  deviceAddr := 0x40
  resetTarget := generalCallAddr
  pulsesPerSecond := 100
  wiring := { pwm1 := 8, in1_1 := 10, in2_1 := 9, pwm2 := 13, in1_2 := 11, in2_2 := 12 }
  coilTable := identityCoilTable
  numPorts := 2

/-- The answer to a `BusWrite` or a `BusSend` (20_memory.md R74). -/
inductive Ack where
  | ok
  | err
deriving DecidableEq, Repr, Inhabited

/-- The answer to a `BusRead`: any byte, or an error (R74). -/
inductive ReadAnswer where
  | ok (b : Byte)
  | err
deriving DecidableEq, Repr, Inhabited

/-- FREE VALUE: the n-th drawn answer to a `BusWrite` or `BusSend` (R74; log 3). -/
opaque Config.ackDraw : Nat → Ack

/-- FREE VALUE: the n-th drawn answer to a `BusRead` (R74; log 3). -/
opaque Config.readDraw : Nat → ReadAnswer

/-- FREE VALUE: the n-th clock draw, before the bounds of R219 and R220 (log 3). -/
opaque Config.clockDraw : Nat → Rat

/-- FREE VALUE: the n-th choice of the scheduler among the enabled segments (R72; log 3). -/
opaque Config.turnDraw : Nat → Nat

end Sys2Proof
end

