-- ==== Sys2Proof/Syntax.lean ====
section
/-! DEFINITION. Sys2Proof/Syntax.lean: the twelve commands of the opcode map (30_encoding.md R90) with their operands
(R91), one constructor per row of spec/opcode_table.json. Fields keep the width of the word's field: the bounds of the
source are checked when the command runs, not here (R91). -/

namespace Sys2Proof

/-- The direction operand D of STEP: D = 0 is Forward, D = 1 is Backward (R89). -/
inductive Dir where
  | forward
  | backward
deriving DecidableEq, Repr, Inhabited

/-- The pin operand S of SETPIN: S = 1 is On, S = 0 is Off (R86). -/
inductive PinState where
  | off
  | on
deriving DecidableEq, Repr, Inhabited

/-- A command (R90). -/
inductive Instr where
  /-- INIT, format N (R120). -/
  | init
  /-- WRCH ch, on, off, format C (R84, R125). -/
  | wrch (ch : BitVec 8) (onTick offTick : BitVec 16)
  /-- WRALL on, off, format A (R85, R130). -/
  | wrall (onTick offTick : BitVec 16)
  /-- SETPIN ch, state, format P (R86, R135). -/
  | setpin (ch : BitVec 8) (pin : PinState)
  /-- SETFREQ num/den, format Q, NUM unsigned (R87, R140). -/
  | setfreq (num : BitVec 32) (den : BitVec 24)
  /-- GETFREQ, format N (R145). -/
  | getfreq
  /-- SWRESET, format N (R150). -/
  | swreset
  /-- SETSTR num/den, format Q, NUM two's complement (R87, R165). -/
  | setstr (num : BitVec 32) (den : BitVec 24)
  /-- COILS c, format K (R88, R170). -/
  | coils (c : CoilState)
  /-- IDLE, format N (R175). -/
  | idle
  /-- STEP dir, count, format S (R89, R180). -/
  | step (dir : Dir) (count : BitVec 32)
  /-- STOP, format N (R185). -/
  | stop
deriving DecidableEq, Repr, Inhabited

end Sys2Proof
end

