-- ==== Sys2Proof/Machine/State.lean ====
section
/-! DEFINITION. Sys2Proof/Machine/State.lean: the state of the block (10_state.md R20 to R42), responses
(30_encoding.md R98 to R100), the event trace (20_memory.md R73), the environment's queues (log 3), and block reset
(70_reset_and_hazards.md R240). -/

namespace Sys2Proof.Machine

/-- SeqState (R27). -/
inductive SeqState where
  | idle
  | stepping
deriving DecidableEq, Repr

/-- The status codes of a response (R99). -/
inductive Status where
  | ok
  | validation
  | transport
  | partialWrite
  | contention
  | notReady
  | illegalCommand
deriving DecidableEq, Repr

/-- The 8-bit number of a status (R98, R99). -/
def Status.code : Status → BitVec 8
  | .ok => 0x00
  | .validation => 0x01
  | .transport => 0x02
  | .partialWrite => 0x03
  | .contention => 0x04
  | .notReady => 0x05
  | .illegalCommand => 0x06

/-- The data of a response, by opcode and status (R100). -/
inductive RespData where
  /-- no data -/
  | none
  /-- INIT and GETFREQ on OK: the byte read and freqOf of it -/
  | prescaleFreq (prescale : Byte) (freq : Rat)
  /-- SETFREQ on OK: the value written -/
  | prescale (prescale : Byte)
  /-- STEP on OK -/
  | stepped (steps : BitVec 32) (dir : Dir) (duration : Rat) (cancelled : Bool)
  /-- STEP on TRANSPORT or PARTIAL_WRITE: the iterations completed before the failure -/
  | failedAfter (steps : BitVec 32)
deriving DecidableEq, Repr

/-- A response record (R98). -/
structure Response where
  status : Status
  data : RespData
deriving DecidableEq, Repr

/-- The reasons of a model fault (R206). -/
inductive FaultReason where
  | freqNonpositive
  | prescaleRange
deriving DecidableEq, Repr

/-- `faulted`: a set of fault reasons (R35), one membership bit per reason of R206. -/
structure FaultSet where
  freqNonpositive : Bool
  prescaleRange : Bool
deriving DecidableEq, Repr

/-- The empty set of reasons. -/
def FaultSet.empty : FaultSet := ⟨false, false⟩

/-- A reason is in the set. -/
def FaultSet.has (f : FaultSet) : FaultReason → Bool
  | .freqNonpositive => f.freqNonpositive
  | .prescaleRange => f.prescaleRange

/-- The answer to the closing action of a command's previous segment (R71). -/
inductive Answer where
  /-- segment 1, and the segment after a wait -/
  | nothing
  /-- a write or a send answered `ok` -/
  | ok
  /-- a read answered `ok(b)` -/
  | okByte (b : Byte)
  /-- a transaction answered `err` -/
  | err
deriving DecidableEq, Repr

/-- The operation context of an in-flight command (R31) with STEP's loop context (R33). -/
structure Ctx where
  /-- the stored command word (R70) -/
  word : Word
  /-- the decoded command, absent until segment 1 decodes the word -/
  cmd : Option Instr
  /-- the position of the next segment: how many closing actions the command has done, and for STEP how many
  in the current iteration -/
  pos : Nat
  /-- some `BusWrite` or `BusSend` of this command has returned `ok` -/
  wrote : Bool
  /-- the answer the next segment starts with (R71) -/
  answer : Answer
  /-- the MODE1 byte read by INIT step 5 -/
  m : Byte
  /-- the MODE1 byte read by SETFREQ -/
  old : Byte
  /-- the prescale byte read by INIT step 7 or GETFREQ, or computed by SETFREQ -/
  p8 : Byte
  /-- the duty computed by SETSTR -/
  duty : Int
  /-- STEP's direction -/
  dir : Dir
  /-- STEP's count -/
  count : BitVec 32
  /-- STEP's iterations completed -/
  i : Nat
  /-- the start timestamp of iteration 1, or none -/
  tFirst : Option Rat
  /-- the start timestamp of the current iteration -/
  tS : Rat
  /-- the end timestamp of the last completed iteration -/
  tEnd : Rat
  /-- the pending wait deadline, or none (R33, R220) -/
  deadline : Option Rat
deriving DecidableEq, Repr

/-- A cleared context that holds a stored word (R70). The temporaries hold 0 until they are written: DESIGN CHOICE,
log 12. -/
def Ctx.fresh (w : Word) : Ctx where
  word := w
  cmd := none
  pos := 0
  wrote := false
  answer := .nothing
  m := 0
  old := 0
  p8 := 0
  duty := 0
  dir := .forward
  count := 0
  i := 0
  tFirst := none
  tS := 0
  tEnd := 0
  deadline := none

/-- A command port (R31). -/
structure Port where
  busy : Bool
  ctx : Option Ctx
  resp : Option Response
deriving DecidableEq, Repr

/-- A port at reset (R42). -/
def Port.reset : Port := ⟨false, none, none⟩

/-- The events of the trace (R73). -/
inductive Event where
  | accept (p : Nat) (word : Word)
  | write (p : Nat) (dev : DevAddr) (reg v : Byte) (answer : Ack)
  | read (p : Nat) (dev : DevAddr) (reg : Byte) (answer : ReadAnswer)
  | send (p : Nat) (dev : DevAddr) (b : Byte) (answer : Ack)
  | clock (p : Nat) (t : Rat)
  | wait (p : Nat) (deadline : Rat)
  | respond (p : Nat) (r : Response)
  | fault (p : Nat) (reason : FaultReason)
deriving DecidableEq, Repr

/-- What happens next: a host offers a word on a port (R70), or the scheduler picks a port's segment (R72). -/
inductive Turn where
  | offer (p : Nat) (w : Word)
  | run (p : Nat)
deriving DecidableEq, Repr

/-- The environment's inputs still to come, oldest first, and the count of free values drawn (log 3). -/
structure Env where
  /-- the hosts' offers and the scheduler's choices -/
  turns : List Turn
  /-- the answers to `BusWrite` and `BusSend` -/
  acks : List Ack
  /-- the answers to `BusRead` -/
  reads : List ReadAnswer
  /-- the clock's draws -/
  clocks : List Rat
  /-- how many free values have been drawn -/
  drawn : Nat
deriving DecidableEq, Repr

/-- No inputs queued: every answer, draw and choice is then a free value. -/
def Env.reset : Env := ⟨[], [], [], [], 0⟩

/-- The state of the block (R42), the trace (R73), the parameters (R8, R29) and the model's own `cur` and `env`. -/
structure State where
  /-- the parameters the block was instantiated with; no command writes them (R29) -/
  params : Params
  /-- R22 -/
  ready : Bool
  /-- R24 -/
  stepIndex : Fin 4
  /-- R25 -/
  throttle : Rat
  /-- R26 -/
  pulsing : Bool
  /-- R27 -/
  seqState : SeqState
  /-- R28 -/
  cancel : Bool
  /-- the command ports 0, 1, …, NUM_PORTS − 1 (R31, R227) -/
  ports : List Port
  /-- R34 -/
  lastClock : Rat
  /-- R35 -/
  faulted : FaultSet
  /-- R35 -/
  refused : Bool
  /-- the event trace in execution order (R73) -/
  trace : List Event
  /-- the port whose segment runs: the scheduler's pick (R72; log 8) -/
  cur : Nat
  /-- the environment's queues (log 3) -/
  env : Env
deriving DecidableEq, Repr

/-- Why the model stops. -/
inductive Fault where
  /-- Raised by every meaning when the port `cur` has no command in flight, so that there is no segment to run
  (R71: segments are an in-flight command's). `step` never raises it. Safe. -/
  | noSegment
deriving DecidableEq, Repr

/-- Why the model gives no meaning. -/
inductive Refusal where
  /-- Raised by `exec` for a command that has no meaning yet. Safe. No arm of `exec` raises it. -/
  | notModelled (mnemonic : String)
deriving DecidableEq, Repr

/-- Block reset is instantiation (R240): every element at its reset value, for a configuration and the unspecified
draw that `lastClock` holds (R34). `refused` is 0 unless the configuration check sets it (R207). -/
def State.resetWith (p : Params) (clock : Rat) : State where
  params := p
  ready := false
  stepIndex := 0
  throttle := 1
  pulsing := false
  seqState := .idle
  cancel := false
  ports := List.replicate p.numPorts Port.reset
  lastClock := clock
  faulted := FaultSet.empty
  refused := !p.ok
  trace := []
  cur := 0
  env := Env.reset

/-- The machine right after reset, with the example configuration of 95_test_vectors.md (DESIGN CHOICE, log 1) and
`lastClock` = 0 (DESIGN CHOICE, log 2). -/
def State.reset : State := State.resetWith exampleParams 0

end Sys2Proof.Machine
end

