-- ==== Sys2Proof/Machine/Operands.lean ====
section
/-! DEFINITION. Sys2Proof/Machine/Operands.lean: the pure functions of the commands: register addresses
(20_memory.md R51 to R53, 30_encoding.md R101), tick bytes and groups (40_driver.md R110 to R112), rational operands
(R87), prescale, frequency and duty (R113, R114, 41_sequencer.md R160), validation (R115), mode bytes (R116), the step
index (R161) and the coil writes (R163, R164). -/

namespace Sys2Proof.Machine

/-- MODE1 (R101). -/
def regMode1 : Byte := 0x00
/-- MODE2 (R101). -/
def regMode2 : Byte := 0x01
/-- PRESCALE (R101). -/
def regPrescale : Byte := 0xFE
/-- ALLBASE: ALL_LED_ON_L (R53, R112). -/
def allBase : Byte := 0xFA
/-- The software-reset command byte (R101). -/
def swrstByte : Byte := 0x00
/-- MODE1 SLEEP, bit 4 (R37, R101). -/
def maskSleep : Byte := 0x10
/-- MODE1 ALLCALL, bit 0 (R37, R101). -/
def maskAllcall : Byte := 0x01
/-- MODE1 RESTART, bit 7 (R37, R101). -/
def maskRestart : Byte := 0x80
/-- MODE2 OUTDRV, bit 2 (R38, R101). -/
def maskOutdrv : Byte := 0x04

/-- base(n) = 0x06 + 4 * n (R52, R112). -/
def chanBase (n : Nat) : Byte := BitVec.ofNat 8 (0x06 + 4 * n)

/-- lo(v) = v & 0xFF (R110). -/
def loByte (v : Nat) : Byte := BitVec.ofNat 8 (v &&& 0xFF)

/-- hi(v) = v >> 8 (R110). -/
def hiByte (v : Nat) : Byte := BitVec.ofNat 8 (v >>> 8)

/-- One register write the driver issues: the register and the byte. -/
structure RegWrite where
  reg : Byte
  val : Byte
deriving DecidableEq, Repr

/-- GroupWrite(b, on, off): on-low, on-high, off-low, off-high (R111). -/
def groupWrites (b : Byte) (onTick offTick : Nat) : List RegWrite :=
  [⟨b, loByte onTick⟩, ⟨b + 1, hiByte onTick⟩, ⟨b + 2, loByte offTick⟩, ⟨b + 3, hiByte offTick⟩]

/-- PinWrite(c, s): On is (4096, 0), Off is (0, 4096) (R135). -/
def pinWrites (ch : Nat) : PinState → List RegWrite
  | .on => groupWrites (chanBase ch) tickSentinel 0
  | .off => groupWrites (chanBase ch) 0 tickSentinel

/-- Element k of a CoilState as a pin state: 1 is On, 0 is Off (R88, R163). -/
def coilPin (c : CoilState) (k : Nat) : PinState := if c.getLsbD k then .on else .off

/-- The sixteen writes of UpdateCoils(c), in the fixed order winding1-IN2, winding2-IN1, winding1-IN1, winding2-IN2
(R163, R164). -/
def coilWrites (w : Wiring) (c : CoilState) : List RegWrite :=
  pinWrites w.in2_1 (coilPin c 0) ++ pinWrites w.in1_2 (coilPin c 1) ++
  pinWrites w.in1_1 (coilPin c 2) ++ pinWrites w.in2_2 (coilPin c 3)

/-- The eight writes of SETSTR: (0, duty) to pwm1, then to pwm2 (R165). -/
def dutyWrites (w : Wiring) (duty : Int) : List RegWrite :=
  groupWrites (chanBase w.pwm1) 0 duty.toNat ++ groupWrites (chanBase w.pwm2) 0 duty.toNat

/-- The six writes of INIT before its first wait: the broadcast (0, 0), MODE2 <- OUTDRV, MODE1 <- ALLCALL
(R120 steps 1 to 3). -/
def initWrites : List RegWrite :=
  groupWrites allBase 0 0 ++ [⟨regMode2, maskOutdrv⟩, ⟨regMode1, maskAllcall⟩]

/-- validCh(c) (R115). -/
def validCh (c : Nat) : Bool := decide (c < numChannels)

/-- validTick(v) (R115). -/
def validTick (v : Int) : Bool := decide (0 ≤ v) && decide (v ≤ (tickMax : Int))

/-- SETFREQ's operand, NUM unsigned: zext(NUM)/DEN (R87). -/
def freqOperand (num : BitVec 32) (den : BitVec 24) : Rat := (num.toNat : Rat) / (den.toNat : Rat)

/-- SETSTR's operand, NUM two's complement: sext_32(NUM)/DEN (R87). -/
def strOperand (num : BitVec 32) (den : BitVec 24) : Rat := (num.toInt : Rat) / (den.toNat : Rat)

/-- roundHalfUp(x) = floor(x + 1/2) (R10). -/
def roundHalfUp (x : Rat) : Int := ⌊x + 1 / 2⌋

/-- prescaleOf(f) = roundHalfUp(25_000_000 / (4095 * f)) − 1 (R113). -/
def prescaleOf (f : Rat) : Int := roundHalfUp (oscHz / (writeDiv * f)) - 1

/-- freqOf(p) = 25_000_000 / ((p + 1) * 4096) (R114). -/
def freqOf (p : Byte) : Rat := oscHz / (((p.toNat : Rat) + 1) * readDiv)

/-- dutyOf(fr) = floor(fr * 4095) (R160). -/
def dutyOf (fr : Rat) : Int := ⌊fr * (tickMax : Rat)⌋

/-- sleepByte(x) = (x & 0x7F) | 0x10 (R116). -/
def sleepByte (x : Byte) : Byte := (x &&& 0x7F) ||| maskSleep

/-- wakeByte(x) = x & 0xEF (R116). -/
def wakeByte (x : Byte) : Byte := x &&& 0xEF

/-- restartByte(x) = x | 0x80 (R116). -/
def restartByte (x : Byte) : Byte := x ||| maskRestart

/-- nextIndex(i, dir): (i + 1) mod 4 forward; i − 1, wrapping to 3, backward (R161). -/
def nextIndex (i : Fin 4) : Dir → Fin 4
  | .forward => ⟨(i.val + 1) % 4, Nat.mod_lt _ (by decide)⟩
  | .backward => if i.val = 0 then 3 else ⟨i.val - 1, Nat.lt_of_le_of_lt (Nat.sub_le _ _) i.isLt⟩

/-- The byte of a read's answer (R11). In the other answers, which no read gives, it is 0 (log 13). -/
def Answer.byte : Answer → Byte
  | .okByte b => b
  | .nothing => 0
  | .ok => 0
  | .err => 0

/-- The answer of a write or a send, as the next segment starts with it (R71). -/
def Answer.ofAck : Ack → Answer
  | .ok => .ok
  | .err => .err

/-- The answer of a read, as the next segment starts with it (R71). -/
def Answer.ofRead : ReadAnswer → Answer
  | .ok b => .okByte b
  | .err => .err

end Sys2Proof.Machine
end

