-- ==== Sys2Proof/Machine/Ops.lean ====
section
/-! DEFINITION. Sys2Proof/Machine/Ops.lean: the named operations the meanings are written over: one update per field of
State, the running command's port and context, the environment's draws (20_memory.md R74), the clock and waits
(60_exceptions.md R219, R220), the three bus primitives (00_scope.md R11), responses and errors (R200 to R205, R210),
the spec's fault (R206), and the shape of a segment (20_memory.md R71). -/

namespace Sys2Proof.Machine

/-! ### One update per field -/

def State.setReady (b : Bool) (s : State) : State := { s with ready := b }
def State.setStepIndex (k : Fin 4) (s : State) : State := { s with stepIndex := k }
def State.setThrottle (x : Rat) (s : State) : State := { s with throttle := x }
def State.setPulsing (b : Bool) (s : State) : State := { s with pulsing := b }
def State.setSeqState (q : SeqState) (s : State) : State := { s with seqState := q }
def State.setCancel (b : Bool) (s : State) : State := { s with cancel := b }
def State.setPorts (ps : List Port) (s : State) : State := { s with ports := ps }
def State.setLastClock (t : Rat) (s : State) : State := { s with lastClock := t }
def State.setFaulted (f : FaultSet) (s : State) : State := { s with faulted := f }
def State.setTrace (es : List Event) (s : State) : State := { s with trace := es }
def State.setCur (p : Nat) (s : State) : State := { s with cur := p }
def State.setEnv (e : Env) (s : State) : State := { s with env := e }

/-! ### The running command's port and context -/

/-- Updates port p. A port outside [0, NUM_PORTS) does not exist, and nothing changes. -/
def State.modPortAt (p : Nat) (f : Port → Port) (s : State) : State := s.setPorts (s.ports.modify p f)

/-- The context of the command in flight on port p. -/
def State.ctxAt (s : State) (p : Nat) : Option Ctx := s.ports[p]?.bind Port.ctx

/-- The context of the command whose segment runs. -/
def State.ctx? (s : State) : Option Ctx := s.ctxAt s.cur

/-- Updates the context of the command whose segment runs. -/
def State.modCtx (f : Ctx → Ctx) (s : State) : State :=
  s.modPortAt s.cur fun q => { q with ctx := q.ctx.map f }

/-- Records one event, in execution order (R73). -/
def State.emit (e : Event) (s : State) : State := s.setTrace (s.trace ++ [e])

/-! ### Draws from the environment (R74; log 3) -/

/-- The answer to the next write or send: the queue's, else a free value. -/
def Env.nextAck (e : Env) : Ack :=
  match e.acks with
  | a :: _ => a
  | [] => Config.ackDraw e.drawn

/-- The environment after that answer. -/
def Env.dropAck (e : Env) : Env :=
  match e.acks with
  | _ :: as => { e with acks := as }
  | [] => { e with drawn := e.drawn + 1 }

/-- The answer to the next read: the queue's, else a free value. -/
def Env.nextRead (e : Env) : ReadAnswer :=
  match e.reads with
  | a :: _ => a
  | [] => Config.readDraw e.drawn

/-- The environment after that answer. -/
def Env.dropRead (e : Env) : Env :=
  match e.reads with
  | _ :: as => { e with reads := as }
  | [] => { e with drawn := e.drawn + 1 }

/-- The clock's next draw before its bounds: the queue's, else a free value. -/
def Env.nextClock (e : Env) : Rat :=
  match e.clocks with
  | t :: _ => t
  | [] => Config.clockDraw e.drawn

/-- The environment after that draw. -/
def Env.dropClock (e : Env) : Env :=
  match e.clocks with
  | _ :: ts => { e with clocks := ts }
  | [] => { e with drawn := e.drawn + 1 }

/-! ### What a closing action leaves in the context (R71) -/

/-- After a write or a send: the next position, the answer, and `wrote <- 1` on `ok` (R31; log 11). -/
def Ctx.tookAck (a : Ack) (c : Ctx) : Ctx :=
  { c with pos := c.pos + 1, answer := .ofAck a, wrote := c.wrote || a == .ok }

/-- After a read: the next position and the answer. -/
def Ctx.tookRead (a : ReadAnswer) (c : Ctx) : Ctx := { c with pos := c.pos + 1, answer := .ofRead a }

/-- After a `WaitUntil(t)`: the next position and the deadline (R220). -/
def Ctx.waiting (t : Rat) (c : Ctx) : Ctx := { c with pos := c.pos + 1, answer := .nothing, deadline := some t }

/-- Once the wait is over no deadline is pending (R33, R220). -/
def Ctx.resumed (c : Ctx) : Ctx := { c with deadline := none }

/-! ### What a segment keeps in the context (R31) -/

/-- `ctx.m <- b` (R120). -/
def Ctx.keepM (b : Byte) (c : Ctx) : Ctx := { c with m := b }

/-- `ctx.old <- b` (R140). -/
def Ctx.keepOld (b : Byte) (c : Ctx) : Ctx := { c with old := b }

/-- `ctx.p8 <- b` (R120, R140, R145). -/
def Ctx.keepP8 (b : Byte) (c : Ctx) : Ctx := { c with p8 := b }

/-- `ctx.duty <- d` (R165). -/
def Ctx.keepDuty (d : Int) (c : Ctx) : Ctx := { c with duty := d }

/-- The decoded command is held (R31). -/
def Ctx.decoded (i : Instr) (c : Ctx) : Ctx := { c with cmd := some i }

/-! ### The clock and waits -/

/-- The value a `ReadClock` returns when it must be at least `bound`: the draw, raised where needed to `bound`, to
`lastClock` and to 0 (R219, R220; log 15). -/
def State.clockValue (s : State) (bound : Rat) : Rat :=
  max s.env.nextClock (max bound (max s.lastClock 0))

/-- `ReadClock()` with a lower bound: `lastClock <- t`, one `Clock` event (R73, R219). -/
def State.readClockFrom (bound : Rat) (s : State) : State :=
  ((s.setEnv s.env.dropClock).setLastClock (s.clockValue bound)).emit (.clock s.cur (s.clockValue bound))

/-- `ReadClock()` (R219). The value it returned is the new `lastClock`. -/
def State.readClock (s : State) : State := s.readClockFrom 0

/-- `WaitUntil(t)` closes the segment and registers the deadline (R71, R220). -/
def State.waitUntil (t : Rat) (s : State) : State :=
  (s.emit (.wait s.cur t)).modCtx (Ctx.waiting t)

/-- `t <- ReadClock(); WaitUntil(t + d)` (R120, R140). -/
def State.waitFor (d : Rat) (s : State) : State := s.readClock.waitUntil (s.readClock.lastClock + d)

/-- The start of the segment after a wait: a `ReadClock` whose value is at least the deadline (R220). -/
def State.resume (c : Ctx) (s : State) : State :=
  (s.readClockFrom (c.deadline.getD 0)).modCtx Ctx.resumed

/-! ### The bus primitives (R11, R59, R71): each closes its segment -/

/-- `BusWrite(DEV, reg, v)`. `ctx.wrote <- 1` when it is answered `ok` (R31; log 11). -/
def State.busWrite (reg v : Byte) (s : State) : State :=
  ((s.setEnv s.env.dropAck).emit (.write s.cur s.params.dev reg v s.env.nextAck)).modCtx
    (Ctx.tookAck s.env.nextAck)

/-- `BusRead(DEV, reg)`. -/
def State.busRead (reg : Byte) (s : State) : State :=
  ((s.setEnv s.env.dropRead).emit (.read s.cur s.params.dev reg s.env.nextRead)).modCtx
    (Ctx.tookRead s.env.nextRead)

/-- `BusSend(dev, b)`. `ctx.wrote <- 1` when it is answered `ok` (R31; log 11). -/
def State.busSend (dev : DevAddr) (b : Byte) (s : State) : State :=
  ((s.setEnv s.env.dropAck).emit (.send s.cur dev b s.env.nextAck)).modCtx
    (Ctx.tookAck s.env.nextAck)

/-! ### How a command ends -/

/-- `respond(status, data)`: the response is posted, the port is free, the command is over (R31, R98, R210; log 9). -/
def State.respond (status : Status) (data : RespData) (s : State) : State :=
  (s.emit (.respond s.cur ⟨status, data⟩)).modPortAt s.cur fun _ => ⟨false, none, some ⟨status, data⟩⟩

/-- `raise E`: the command ends with an error status and no data (R11, R200). Nothing it did is undone (R210). -/
def State.raise (status : Status) (s : State) : State := s.respond status .none

/-- The status of a transport failure: PARTIAL_WRITE if a write or send of this command was answered `ok`, else
TRANSPORT (R205). -/
def failStatus (c : Ctx) : Status := if c.wrote then .partialWrite else .transport

/-- `busFail`, the transport-failure exit, with the data R100 gives (R205). -/
def State.busFail (c : Ctx) (data : RespData) (s : State) : State := s.respond (failStatus c) data

/-- The set with a reason added. -/
def FaultSet.add (f : FaultSet) : FaultReason → FaultSet
  | .freqNonpositive => { f with freqNonpositive := true }
  | .prescaleRange => { f with prescaleRange := true }

/-- `fault F`: F is added to `faulted`, no response is posted, `busy` stays 1 and the command has no further segment
(R206; log 9, log 10). -/
def State.fault (reason : FaultReason) (s : State) : State :=
  ((s.setFaulted (s.faulted.add reason)).emit (.fault s.cur reason)).modPortAt s.cur fun q => { q with ctx := none }

/-! ### The shape of a segment (R71) -/

/-- Runs a segment of the command in flight on port `cur`, given its context. Without one there is no segment to run
(log 8). -/
def onCtx (s : State) (segment : Ctx → State) : Host.Outcome State Fault Refusal :=
  match s.ctx? with
  | some c => .next (segment c)
  | none => .fault .noSegment

/-- The readiness check (R118, R202). -/
def gated (s : State) (rest : State) : State := if s.ready then rest else s.raise .notReady

/-- The start of a segment that follows a transaction: `err` takes the failure exit (R205). -/
def answered (c : Ctx) (fail rest : State) : State := if c.answer = .err then fail else rest

/-- Issues the k-th write of a list, or does what follows the last one (R63, R111). -/
def issue (ws : List RegWrite) (k : Nat) (done : State → State) (s : State) : State :=
  match ws[k]? with
  | some w => s.busWrite w.reg w.val
  | none => done s

end Sys2Proof.Machine
end

