-- ==== Sys2Proof/Machine/Flags.lean ====
section
/-! DEFINITION. Sys2Proof/Machine/Flags.lean: the one-bit state elements of 10_state.md R30 and what the commands do with
them. The block has no arithmetic flags (R30). -/

namespace Sys2Proof.Machine

/-- INIT accepted: `ready <- 0` (R22, R120). -/
def State.clearReady (s : State) : State := s.setReady false

/-- INIT completes OK: `ready <- 1` (R22, R120). -/
def State.markReady (s : State) : State := s.setReady true

/-- The start of a coil update: `pulsing <- 1` (R26, R164). -/
def State.beginPulse (s : State) : State := s.setPulsing true

/-- The end of a coil update, on success and on failure: `pulsing <- 0` (R26, R164). -/
def State.endPulse (s : State) : State := s.setPulsing false

/-- A STEP passes its checks: `seqState <- Stepping; cancel <- 0` (R27, R28, R188). -/
def State.beginLoop (s : State) : State := (s.setSeqState .stepping).setCancel false

/-- The STEP loop ends, for any reason: `seqState <- Idle; cancel <- 0` (R27, R28, R188). -/
def State.endLoop (s : State) : State := (s.setSeqState .idle).setCancel false

/-- STOP: `cancel <- 1` while Stepping, else nothing (R28, R185). -/
def State.requestStop (s : State) : State := if s.seqState = .stepping then s.setCancel true else s

/-- The contention check of STEP: `seqState = Stepping ∨ pulsing = 1` (R190, R203). -/
def State.contended (s : State) : Bool := s.seqState == .stepping || s.pulsing

end Sys2Proof.Machine
end

