-- ==== Sys2Proof/Machine/Driver.lean ====
section
/-! DEFINITION. Sys2Proof/Machine/Driver.lean: the register driver's commands (40_driver.md section 2). A meaning runs the
NEXT SEGMENT of its command on port `cur` (20_memory.md R71): position 0 is segment 1, position k + 1 starts with the
answer to the k-th closing action. -/

namespace Sys2Proof.Machine

/-- The segments after the first of a command whose body is one list of writes and that then responds OK
(WRCH, WRALL, SETPIN: R125, R130, R135). -/
def restOfWrites (ws : List RegWrite) (c : Ctx) (s : State) : State :=
  answered c (s.busFail c .none) (issue ws c.pos (State.respond .ok .none) s)

/-- Segment 1 of such a command: readiness, then operand validation, then the first write (R208). -/
def firstOfWrites (valid : Bool) (ws : List RegWrite) (s : State) : State :=
  gated s (if valid then issue ws 0 (State.respond .ok .none) s else s.raise .validation)

/-- INIT (R120). Positions 0 to 5 issue the six writes of steps 1 to 3, 6 starts the wait of step 4, 7 and 8 are the
read and the write of step 5, 9 starts the wait of step 6, 10 is the read of step 7, 11 ends it. -/
def initSegment (c : Ctx) (s : State) : State :=
  match c.pos with
  | 0 => issue initWrites 0 id s.clearReady
  | 6 => answered c (s.busFail c .none) (s.waitFor waitMs)
  | 7 => (s.resume c).busRead regMode1
  | 8 => answered c (s.busFail c .none)
      ((s.modCtx (Ctx.keepM c.answer.byte)).busWrite regMode1 (wakeByte c.answer.byte))
  | 9 => answered c (s.busFail c .none) (s.waitFor waitMs)
  | 10 => (s.resume c).busRead regPrescale
  | k => answered c (s.busFail c .none)
      (issue initWrites k
        (fun s => ((s.modCtx (Ctx.keepP8 c.answer.byte)).markReady).respond .ok
          (.prescaleFreq c.answer.byte (freqOf c.answer.byte))) s)

/-- INIT (R120). -/
def execInit (s : State) : Host.Outcome State Fault Refusal := onCtx s fun c => initSegment c s

/-- The four writes of WRCH (R125). -/
def wrchWrites (ch : BitVec 8) (onTick offTick : BitVec 16) : List RegWrite :=
  groupWrites (chanBase ch.toNat) onTick.toNat offTick.toNat

/-- WRCH (R125). -/
def execWrch (ch : BitVec 8) (onTick offTick : BitVec 16) (s : State) : Host.Outcome State Fault Refusal :=
  onCtx s fun c =>
    match c.pos with
    | 0 => firstOfWrites (validCh ch.toNat && validTick onTick.toNat && validTick offTick.toNat)
        (wrchWrites ch onTick offTick) s
    | _ => restOfWrites (wrchWrites ch onTick offTick) c s

/-- The four writes of WRALL (R130). -/
def wrallWrites (onTick offTick : BitVec 16) : List RegWrite :=
  groupWrites allBase onTick.toNat offTick.toNat

/-- WRALL (R130). -/
def execWrall (onTick offTick : BitVec 16) (s : State) : Host.Outcome State Fault Refusal :=
  onCtx s fun c =>
    match c.pos with
    | 0 => firstOfWrites (validTick onTick.toNat && validTick offTick.toNat) (wrallWrites onTick offTick) s
    | _ => restOfWrites (wrallWrites onTick offTick) c s

/-- SETPIN (R135): the tick bound is not applied to the sentinels. -/
def execSetpin (ch : BitVec 8) (pin : PinState) (s : State) : Host.Outcome State Fault Refusal :=
  onCtx s fun c =>
    match c.pos with
    | 0 => firstOfWrites (validCh ch.toNat) (pinWrites ch.toNat pin) s
    | _ => restOfWrites (pinWrites ch.toNat pin) c s

/-- Segment 1 of SETFREQ: readiness, f > 0, the prescale's range, then the read of MODE1 (R140, R141, R208). -/
def setfreqFirst (num : BitVec 32) (den : BitVec 24) (s : State) : State :=
  gated s
    (if num = 0 then s.fault .freqNonpositive
     else if prescaleOf (freqOperand num den) < 0 ∨ 255 < prescaleOf (freqOperand num den) then s.fault .prescaleRange
     else (s.modCtx (Ctx.keepP8 (BitVec.ofInt 8 (prescaleOf (freqOperand num den))))).busRead regMode1)

/-- SETFREQ after segment 1 (R140): position 1 writes the sleep byte, 2 the prescale, 3 restores MODE1, 4 starts the
wait, 5 writes the restart byte, 6 ends it. -/
def setfreqRest (c : Ctx) (s : State) : State :=
  match c.pos with
  | 1 => answered c (s.busFail c .none)
      ((s.modCtx (Ctx.keepOld c.answer.byte)).busWrite regMode1 (sleepByte c.answer.byte))
  | 2 => answered c (s.busFail c .none) (s.busWrite regPrescale c.p8)
  | 3 => answered c (s.busFail c .none) (s.busWrite regMode1 c.old)
  | 4 => answered c (s.busFail c .none) (s.waitFor waitMs)
  | 5 => (s.resume c).busWrite regMode1 (restartByte c.old)
  | _ => answered c (s.busFail c .none) (s.respond .ok (.prescale c.p8))

/-- SETFREQ (R140, R141). -/
def execSetfreq (num : BitVec 32) (den : BitVec 24) (s : State) : Host.Outcome State Fault Refusal :=
  onCtx s fun c =>
    match c.pos with
    | 0 => setfreqFirst num den s
    | _ => setfreqRest c s

/-- GETFREQ (R145). -/
def execGetfreq (s : State) : Host.Outcome State Fault Refusal :=
  onCtx s fun c =>
    match c.pos with
    | 0 => gated s (s.busRead regPrescale)
    | _ => answered c (s.busFail c .none)
        ((s.modCtx (Ctx.keepP8 c.answer.byte)).respond .ok
          (.prescaleFreq c.answer.byte (freqOf c.answer.byte)))

/-- SWRESET (R150). -/
def execSwreset (s : State) : Host.Outcome State Fault Refusal :=
  onCtx s fun c =>
    match c.pos with
    | 0 => s.busSend s.params.resetDev swrstByte
    | _ => answered c (s.busFail c .none) (s.respond .ok .none)

end Sys2Proof.Machine
end

