-- ==== Sys2Proof/Machine/Sequencer.lean ====
section
/-! DEFINITION. Sys2Proof/Machine/Sequencer.lean: the stepper sequencer's commands (41_sequencer.md section 2). A meaning
runs the NEXT SEGMENT of its command on port `cur` (20_memory.md R71). -/

namespace Sys2Proof.Machine

/-- SETSTR (R165): readiness, the duty's bound, eight writes, then `throttle <- fr`. -/
def execSetstr (num : BitVec 32) (den : BitVec 24) (s : State) : Host.Outcome State Fault Refusal :=
  onCtx s fun c =>
    match c.pos with
    | 0 => gated s
        (if validTick (dutyOf (strOperand num den)) then
          issue (dutyWrites s.params.wiring (dutyOf (strOperand num den))) 0 id
            (s.modCtx (Ctx.keepDuty (dutyOf (strOperand num den))))
         else s.raise .validation)
    | k => answered c (s.busFail c .none)
        (issue (dutyWrites s.params.wiring c.duty) k
          (fun s => (s.setThrottle (strOperand num den)).respond .ok .none) s)

/-- A command whose body is UpdateCoils(pattern) (R164, R170, R175). -/
def coilSegment (pattern : CoilState) (c : Ctx) (s : State) : State :=
  match c.pos with
  | 0 => gated s (issue (coilWrites s.params.wiring pattern) 0 id s.beginPulse)
  | k => answered c (s.endPulse.busFail c .none)
      (issue (coilWrites s.params.wiring pattern) k (fun s => s.endPulse.respond .ok .none) s)

/-- COILS (R170). -/
def execCoils (pattern : CoilState) (s : State) : Host.Outcome State Fault Refusal :=
  onCtx s fun c => coilSegment pattern c s

/-- IDLE: UpdateCoils((0, 0, 0, 0)) (R175). -/
def execIdle (s : State) : Host.Outcome State Fault Refusal :=
  onCtx s fun c => coilSegment 0 c s

/-- The coil writes of the iteration under way: COIL_TABLE at the current step index (R180 step 3; log 14). -/
def State.stepWrites (s : State) : List RegWrite :=
  coilWrites s.params.wiring (s.params.coilTable[s.stepIndex.val]'s.stepIndex.isLt)

/-- The loop context at the start of an iteration: t_s, and t_first in iteration 1 (R33, R180 step 1). -/
def Ctx.startIteration (t : Rat) (c : Ctx) : Ctx :=
  { c with tS := t, tFirst := if c.i = 0 then some t else c.tFirst, pos := 0 }

/-- Steps 1 to 3 of an iteration up to the first write: read the clock, advance the index, begin the coil update
(R180). -/
def State.beginIteration (c : Ctx) (s : State) : State :=
  let s1 := s.readClock
  let s2 := s1.modCtx (Ctx.startIteration s1.lastClock)
  let s3 := (s2.setStepIndex (nextIndex s2.stepIndex c.dir)).beginPulse
  issue s3.stepWrites 0 id s3

/-- STEP's OK response: the loop is over (R180, R181; `steps` has 32 bits, R100). -/
def State.endStep (c : Ctx) (duration : Rat) (cancelled : Bool) (s : State) : State :=
  s.endLoop.respond .ok (.stepped (BitVec.ofNat 32 c.i) c.dir duration cancelled)

/-- duration = t_end − t_first (R181). -/
def Ctx.duration (c : Ctx) : Rat := c.tEnd - c.tFirst.getD 0

/-- The top of the loop (R180): the count, then `cancel`, then the next iteration. -/
def State.loopTop (c : Ctx) (s : State) : State :=
  if c.i < c.count.toNat then
    if s.cancel then s.endStep c c.duration true else s.beginIteration c
  else if c.count = 0 then s.endStep c 0 false
  else s.endStep c c.duration false

/-- The loop context at the end of an iteration: t_end, and i + 1 (R180). -/
def Ctx.endIteration (t : Rat) (c : Ctx) : Ctx := { c with tEnd := t, i := c.i + 1 }

/-- The end of an iteration at time t, and the top of the loop (R180). -/
def State.endIteration (c : Ctx) (t : Rat) (s : State) : State :=
  (s.modCtx (Ctx.endIteration t)).loopTop (c.endIteration t)

/-- Step 4 of an iteration: measure, then wait until t_s + interval or go on at once (R180). -/
def State.measure (c : Ctx) (s : State) : State :=
  let s1 := s.endPulse.readClock
  if s1.lastClock - c.tS < s.params.interval then s1.waitUntil (c.tS + s.params.interval)
  else s1.endIteration c s1.lastClock

/-- The failure path of STEP: `pulsing`, `seqState` and `cancel` are cleaned up, `stepIndex` stays (R164, R182). -/
def State.stepFail (c : Ctx) (s : State) : State :=
  s.endPulse.endLoop.busFail c (.failedAfter (BitVec.ofNat 32 c.i))

/-- The loop context that segment 1 of STEP sets up (R180). -/
def Ctx.startLoop (dir : Dir) (count : BitVec 32) (c : Ctx) : Ctx :=
  { c with dir := dir, count := count, i := 0 }

/-- Segment 1 of STEP: readiness, contention, then the loop (R180, R208). -/
def stepFirst (dir : Dir) (count : BitVec 32) (c : Ctx) (s : State) : State :=
  gated s
    (if s.contended then s.raise .contention
     else (s.beginLoop.modCtx (Ctx.startLoop dir count)).loopTop (c.startLoop dir count))

/-- STEP (R180 to R182). Position 0 is segment 1; positions 1 to 15 of an iteration issue its other writes, 16 measures
the elapsed time, 17 is the segment after the iteration's wait. -/
def execStep (dir : Dir) (count : BitVec 32) (s : State) : Host.Outcome State Fault Refusal :=
  onCtx s fun c =>
    match c.pos with
    | 0 => stepFirst dir count c s
    | 17 => (s.resume c).endIteration c (s.resume c).lastClock
    | k => answered c (s.stepFail c) (issue s.stepWrites k (State.measure c) s)

/-- STOP (R185): one segment, no transaction. -/
def execStop (s : State) : Host.Outcome State Fault Refusal :=
  onCtx s fun _ => s.requestStop.respond .ok .none

end Sys2Proof.Machine
end

