-- ==== Sys2Proof/Machine/Dispatch.lean ====
section
/-! DEFINITION. Sys2Proof/Machine/Dispatch.lean: one arm per command of the opcode map (30_encoding.md R90). `exec i s`
runs the next segment (20_memory.md R71) of command i on port `cur`. -/

namespace Sys2Proof.Machine

def exec (i : Instr) (s : State) : Host.Outcome State Fault Refusal :=
  match i with
  | .init => Sys2Proof.Machine.execInit s
  | .wrch ch onTick offTick => Sys2Proof.Machine.execWrch ch onTick offTick s
  | .wrall onTick offTick => Sys2Proof.Machine.execWrall onTick offTick s
  | .setpin ch pin => Sys2Proof.Machine.execSetpin ch pin s
  | .setfreq num den => Sys2Proof.Machine.execSetfreq num den s
  | .getfreq => Sys2Proof.Machine.execGetfreq s
  | .swreset => Sys2Proof.Machine.execSwreset s
  | .setstr num den => Sys2Proof.Machine.execSetstr num den s
  | .coils c => Sys2Proof.Machine.execCoils c s
  | .idle => Sys2Proof.Machine.execIdle s
  | .step dir count => Sys2Proof.Machine.execStep dir count s
  | .stop => Sys2Proof.Machine.execStop s

end Sys2Proof.Machine
end

