-- ==== Sys2Proof/WellFormed.lean ====
section
/-! DEFINITION. Sys2Proof/WellFormed.lean: which terms of `Instr` a legal word stands for. The one value check of the
encoding is that the denominator of a format Q word is not 0 (30_encoding.md R87, R91, R92 (c)); every other field
takes every value of its width. -/

namespace Sys2Proof

/-- A command that some legal word encodes: DEN of SETFREQ and SETSTR is not 0 (R87, R92). -/
def Instr.wf : Instr → Bool
  | .setfreq _ den => den != 0
  | .setstr _ den => den != 0
  | .init => true
  | .wrch _ _ _ => true
  | .wrall _ _ => true
  | .setpin _ _ => true
  | .getfreq => true
  | .swreset => true
  | .coils _ => true
  | .idle => true
  | .step _ _ => true
  | .stop => true

end Sys2Proof
end

