-- ==== Sys2Proof/Decode.lean ====
section
/-! DEFINITION. Sys2Proof/Decode.lean: the decoder, total on every 64-bit word (30_encoding.md R82 to R94), the rows of
spec/opcode_table.json, and after them the encoder. -/

namespace Sys2Proof

/-- Why a word is illegal: the three cases of R92. -/
inductive DecodeError where
  /-- (a) the opcode is not in R90 -/
  | unknownOpcode
  /-- (b) a field that the format requires to be 0 is not 0 -/
  | reservedNotZero
  /-- (c) the format is Q and DEN = 0 -/
  | zeroDenominator
deriving DecidableEq, Repr

/-- What a word is: one command with its operands, or illegal (R93). -/
inductive Decoded where
  | legal (i : Instr)
  | illegal (why : DecodeError)
deriving DecidableEq, Repr

/-- The command of a legal word. -/
def Decoded.instr? : Decoded → Option Instr
  | .legal i => some i
  | .illegal _ => none

/-- `W[lo + len - 1 : lo]`. -/
def field (w : Word) (lo len : Nat) : BitVec len := w.extractLsb' lo len

/-- OPC = W[63:56] (R82). -/
def opcode (w : Word) : BitVec 8 := field w 56 8

/-- S = 1 means On and S = 0 means Off (R86). -/
def PinState.ofBit (b : BitVec 1) : PinState := if b = 1#1 then .on else .off

/-- D = 0 means Forward and D = 1 means Backward (R89). -/
def Dir.ofBit (b : BitVec 1) : Dir := if b = 1#1 then .backward else .forward

/-- A command whose format requires `zero` to hold of the word (R92 (b)). -/
def reserved (zero : Bool) (i : Instr) : Decoded :=
  if zero then .legal i else .illegal .reservedNotZero

/-- Format N: W[55:0] = 0 (R83). -/
def formatN (w : Word) (i : Instr) : Decoded := reserved (field w 0 56 == 0) i

/-- Format C: W[15:0] = 0 (R84). -/
def formatC (w : Word) : Decoded :=
  reserved (field w 0 16 == 0) (.wrch (field w 48 8) (field w 32 16) (field w 16 16))

/-- Format A: W[55:48] = 0 and W[15:0] = 0 (R85). -/
def formatA (w : Word) : Decoded :=
  reserved (field w 48 8 == 0 && field w 0 16 == 0) (.wrall (field w 32 16) (field w 16 16))

/-- Format P: W[47:1] = 0 (R86). -/
def formatP (w : Word) : Decoded :=
  reserved (field w 1 47 == 0) (.setpin (field w 48 8) (PinState.ofBit (field w 0 1)))

/-- Format Q: NUM = W[55:24], DEN = W[23:0], DEN not 0 (R87). -/
def formatQ (w : Word) (i : BitVec 32 → BitVec 24 → Instr) : Decoded :=
  if field w 0 24 = 0 then .illegal .zeroDenominator else .legal (i (field w 24 32) (field w 0 24))

/-- Format K: W[55:4] = 0 (R88). -/
def formatK (w : Word) : Decoded := reserved (field w 4 52 == 0) (.coils (field w 0 4))

/-- Format S: W[55:49] = 0 and W[47:32] = 0 (R89). -/
def formatS (w : Word) : Decoded :=
  reserved (field w 49 7 == 0 && field w 32 16 == 0) (.step (Dir.ofBit (field w 48 1)) (field w 0 32))

/-- The decoder: read W[63:56], pick the format from R90, check R92 (R94). -/
def decode (w : Word) : Decoded :=
  match opcode w with
  | 0x01#8 => formatN w .init
  | 0x02#8 => formatC w
  | 0x03#8 => formatA w
  | 0x04#8 => formatP w
  | 0x05#8 => formatQ w .setfreq
  | 0x06#8 => formatN w .getfreq
  | 0x07#8 => formatN w .swreset
  | 0x10#8 => formatQ w .setstr
  | 0x11#8 => formatK w
  | 0x12#8 => formatN w .idle
  | 0x13#8 => formatS w
  | 0x14#8 => formatN w .stop
  | _ => .illegal .unknownOpcode

/-- The bit S of SETPIN (R86). -/
def PinState.bit : PinState → BitVec 1
  | .off => 0#1
  | .on => 1#1

/-- The bit D of STEP (R89). -/
def Dir.bit : Dir → BitVec 1
  | .forward => 0#1
  | .backward => 1#1

/-- The word of a command, field by field as R83 to R90 lay it out. -/
def encode : Instr → Word
  | .init => 0x01#8 ++ 0#56
  | .wrch ch onTick offTick => 0x02#8 ++ ch ++ onTick ++ offTick ++ 0#16
  | .wrall onTick offTick => 0x03#8 ++ 0#8 ++ onTick ++ offTick ++ 0#16
  | .setpin ch pin => 0x04#8 ++ ch ++ 0#47 ++ pin.bit
  | .setfreq num den => 0x05#8 ++ num ++ den
  | .getfreq => 0x06#8 ++ 0#56
  | .swreset => 0x07#8 ++ 0#56
  | .setstr num den => 0x10#8 ++ num ++ den
  | .coils c => 0x11#8 ++ 0#52 ++ c
  | .idle => 0x12#8 ++ 0#56
  | .step dir count => 0x13#8 ++ 0#7 ++ dir.bit ++ 0#16 ++ count
  | .stop => 0x14#8 ++ 0#56

/-- A row of spec/opcode_table.json: the fixed bits of a command's words and which bits are fixed. -/
structure OpRow where
  mnemonic : String
  bits : Word
  mask : Word
deriving DecidableEq, Repr

/-- A word whose fixed bits are the row's. -/
def OpRow.matches (r : OpRow) (w : Word) : Bool := w &&& r.mask == r.bits

/-- spec/opcode_table.json, row by row. -/
def opcodeTable : List OpRow :=
  [⟨"INIT", 0x0100000000000000#64, 0xFFFFFFFFFFFFFFFF#64⟩,
   ⟨"WRCH", 0x0200000000000000#64, 0xFF0000000000FFFF#64⟩,
   ⟨"WRALL", 0x0300000000000000#64, 0xFFFF00000000FFFF#64⟩,
   ⟨"SETPIN", 0x0400000000000000#64, 0xFF00FFFFFFFFFFFE#64⟩,
   ⟨"SETFREQ", 0x0500000000000000#64, 0xFF00000000000000#64⟩,
   ⟨"GETFREQ", 0x0600000000000000#64, 0xFFFFFFFFFFFFFFFF#64⟩,
   ⟨"SWRESET", 0x0700000000000000#64, 0xFFFFFFFFFFFFFFFF#64⟩,
   ⟨"SETSTR", 0x1000000000000000#64, 0xFF00000000000000#64⟩,
   ⟨"COILS", 0x1100000000000000#64, 0xFFFFFFFFFFFFFFF0#64⟩,
   ⟨"IDLE", 0x1200000000000000#64, 0xFFFFFFFFFFFFFFFF#64⟩,
   ⟨"STEP", 0x1300000000000000#64, 0xFFFEFFFF00000000#64⟩,
   ⟨"STOP", 0x1400000000000000#64, 0xFFFFFFFFFFFFFFFF#64⟩]

/-- The mnemonic of a command (R90). -/
def Instr.mnemonic : Instr → String
  | .init => "INIT"
  | .wrch _ _ _ => "WRCH"
  | .wrall _ _ => "WRALL"
  | .setpin _ _ => "SETPIN"
  | .setfreq _ _ => "SETFREQ"
  | .getfreq => "GETFREQ"
  | .swreset => "SWRESET"
  | .setstr _ _ => "SETSTR"
  | .coils _ => "COILS"
  | .idle => "IDLE"
  | .step _ _ => "STEP"
  | .stop => "STOP"

/-- The command word whose low `nbits` bits are those of `w`, every bit above them 0. -/
def tableWord (nbits w : Nat) : Word := BitVec.ofNat 64 (w % 2 ^ nbits)

/-- The command the decoder reads from a word numbered as spec/opcode_table.json numbers it. -/
def decodeTableWord (nbits w : Nat) : Option Instr := (decode (tableWord nbits w)).instr?

end Sys2Proof
end

