-- ==== Sys2Proof/Machine/Schedule.lean ====
section
/-! DEFINITION. Sys2Proof/Machine/Schedule.lean: command acceptance (20_memory.md R70), the scheduler (R72), and what
segment 1 does before a command's own rule: decoding the stored word, ILLEGAL_COMMAND (30_encoding.md R92,
60_exceptions.md R201). -/

namespace Sys2Proof.Machine

/-- A port takes a word: `busy <- 1`, `ctx` cleared, the word stored, segment 1 enabled (R70). -/
def Port.take (w : Word) (q : Port) : Port := { q with busy := true, ctx := some (Ctx.fresh w) }

/-- An offer on port p is accepted when the port exists and is not busy (R32, R70) and the configuration is not
refused (R207). -/
def State.accepts (p : Nat) (s : State) : Bool :=
  !s.refused && (s.ports[p]?.map fun q => !q.busy).getD false

/-- A host offers a word on port p. An offer the block does not accept changes nothing (log 4). -/
def State.offer (p : Nat) (w : Word) (s : State) : State :=
  if s.accepts p then (s.modPortAt p (Port.take w)).emit (.accept p w) else s

/-- Port p has an enabled segment: a command in flight that has neither responded nor faulted (R71, R72). -/
def State.enabled (p : Nat) (s : State) : Bool := (s.ctxAt p).isSome

/-- The ports that have an enabled segment. -/
def State.enabledPorts (s : State) : List Nat :=
  (List.range s.ports.length).filter fun p => s.enabled p

/-- What a step of the block does. -/
inductive Fetched where
  /-- no meaning of a command is run: an acceptance, the end of an illegal word, or nothing -/
  | done (s : State)
  /-- the next segment of command i runs on port `cur` of s -/
  | run (i : Instr) (s : State)
deriving DecidableEq, Repr

/-- The scheduler picked port p: its next segment. Segment 1 decodes the stored word; an illegal word ends with
ILLEGAL_COMMAND, before any other check (R201, R208). -/
def State.fetchOn (p : Nat) (s : State) : Fetched :=
  match s.ctxAt p with
  | none => .done s
  | some c =>
    match c.cmd with
    | some i => .run i (s.setCur p)
    | none =>
      match decode c.word with
      | .legal i => .run i ((s.setCur p).modCtx (Ctx.decoded i))
      | .illegal _ => .done ((s.setCur p).raise .illegalCommand)

/-- With no turn queued, the scheduler's choice among the enabled segments is a free value (R72; log 3). With none
enabled the block waits for commands (R241; log 5). -/
def State.fetchFree (s : State) : Fetched :=
  match s.enabledPorts[Config.turnDraw s.env.drawn % s.enabledPorts.length]? with
  | none => .done s
  | some p => State.fetchOn p (s.setEnv { s.env with drawn := s.env.drawn + 1 })

/-- The state with the first turn taken from the queue. -/
def State.dropTurn (s : State) : State := s.setEnv { s.env with turns := s.env.turns.tail }

/-- What the next step does: the first turn of the queue (R70, R72; log 3, log 4). -/
def State.fetch (s : State) : Fetched :=
  match s.env.turns with
  | [] => s.fetchFree
  | .offer p w :: _ => .done (s.dropTurn.offer p w)
  | .run p :: _ => s.dropTurn.fetchOn p

/-- The command with word w is in flight on port 0, at segment 1, and the scheduler picks it next (log 16). -/
def State.loadCommand (w : Word) (s : State) : State :=
  (s.modPortAt 0 (Port.take w)).setEnv { s.env with turns := .run 0 :: s.env.turns }

/-- The status port, a read-only view (R36). -/
structure StatusView where
  ready : Bool
  seqState : SeqState
  pulsing : Bool
  cancel : Bool
  stepIndex : Fin 4
  throttle : Rat
  busy : List Bool
  faulted : FaultSet
  refused : Bool
deriving DecidableEq, Repr

/-- Sampling the status port (R36). -/
def State.status (s : State) : StatusView :=
  ⟨s.ready, s.seqState, s.pulsing, s.cancel, s.stepIndex, s.throttle, s.ports.map Port.busy, s.faulted, s.refused⟩

/-- A host reads `resp[p]` only after `busy[p]` has returned to 0 (R32). -/
def State.readResponse (p : Nat) (s : State) : Option Response :=
  s.ports[p]?.bind fun q => if q.busy then none else q.resp

/-- The events that are transactions (R73). -/
def Event.isBus : Event → Bool
  | .write _ _ _ _ _ => true
  | .read _ _ _ _ => true
  | .send _ _ _ _ => true
  | .accept _ _ => false
  | .clock _ _ => false
  | .wait _ _ => false
  | .respond _ _ => false
  | .fault _ _ => false

/-- The bus trace: the subsequence of Write, Read and Send events (R73). -/
def State.busTrace (s : State) : List Event := s.trace.filter Event.isBus

end Sys2Proof.Machine
end

