-- ==== Sys2Proof/Machine/Step.lean ====
section
/-! DEFINITION. Sys2Proof/Machine/Step.lean: one step of the block (20_memory.md R70 to R72): one acceptance or one
segment, as the first queued turn says (log 3, log 7). -/

namespace Sys2Proof.Machine

/-- One step. -/
def step (s : State) : Host.Outcome State Fault Refusal :=
  match s.fetch with
  | .done t => .next t
  | .run i t => exec i t

/-- s with a command word, numbered as spec/opcode_table.json numbers it, in flight on port 0, so that the next step
runs segment 1 of its command (log 16). -/
def State.withFetchWord (s : State) (nbits w : Nat) : State := s.loadCommand (tableWord nbits w)

end Sys2Proof.Machine
end

