-- ==== Sys2Proof/Machine/Asm.lean ====
section
/-! DEFINITION. Sys2Proof/Machine/Asm.lean: the assembler syntax and the pseudo-instructions (30_encoding.md R95, R96).
What R95 does not say of the text (blanks, letter case, leading zeros) is log 20. -/

namespace Sys2Proof.Machine

/-- A source line's command, with its operands as numbers (R95, R96). -/
inductive Asm where
  | init
  | wrch (ch onTick offTick : Nat)
  | wrall (onTick offTick : Nat)
  | setpin (ch : Nat) (pin : PinState)
  | setfreq (n d : Nat)
  | getfreq
  | swreset
  | setstr (n : Int) (d : Nat)
  | coils (a b c e : Nat)
  | idle
  | step (dir : Dir) (n : Nat)
  | stop
  | pinon (ch : Nat)
  | pinoff (ch : Nat)
  | alllow
  | stepf (n : Nat)
  | stepb (n : Nat)
  | fullstr
deriving DecidableEq, Repr

/-- Each pseudo-instruction's expansion; a command stands for itself (R96). -/
def Asm.expand : Asm → Asm
  | .pinon ch => .setpin ch .on
  | .pinoff ch => .setpin ch .off
  | .alllow => .wrall 0 0
  | .stepf n => .step .forward n
  | .stepb n => .step .backward n
  | .fullstr => .setstr 1 1
  | a => a

/-- The unsigned field of width w that holds n, where it fits (R95). -/
def fit (w n : Nat) : Option (BitVec w) := if n < 2 ^ w then some (BitVec.ofNat w n) else none

/-- NUM = n mod 2^32 of a signed operand, where it fits (R95). -/
def fitSigned (w : Nat) (n : Int) : Option (BitVec w) :=
  if -(2 ^ (w - 1) : Int) ≤ n ∧ n < 2 ^ (w - 1) then some (BitVec.ofInt w n) else none

/-- DEN: a 24-bit field that must not be 0 (R87, R95). -/
def fitDen (d : Nat) : Option (BitVec 24) := if d = 0 then none else fit 24 d

/-- The command of a source line; an operand that does not fit its field is refused (R95). -/
def Asm.instr (a : Asm) : Option Instr :=
  match a.expand with
  | .init => some .init
  | .wrch ch onTick offTick => do return .wrch (← fit 8 ch) (← fit 16 onTick) (← fit 16 offTick)
  | .wrall onTick offTick => do return .wrall (← fit 16 onTick) (← fit 16 offTick)
  | .setpin ch pin => do return .setpin (← fit 8 ch) pin
  | .setfreq n d => do return .setfreq (← fit 32 n) (← fitDen d)
  | .getfreq => some .getfreq
  | .swreset => some .swreset
  | .setstr n d => do return .setstr (← fitSigned 32 n) (← fitDen d)
  | .coils a b c e => do return .coils ((← fit 1 e) ++ (← fit 1 c) ++ (← fit 1 b) ++ (← fit 1 a))
  | .idle => some .idle
  | .step dir n => do return .step dir (← fit 32 n)
  | .stop => some .stop
  | _ => none

/-! ### The text -/

/-- The parts of a text between occurrences of a character. -/
def splitAtChar (sep : Char) : List Char → List (List Char)
  | [] => [[]]
  | c :: cs =>
    if c = sep then [] :: splitAtChar sep cs
    else match splitAtChar sep cs with
      | [] => [[c]]
      | p :: ps => (c :: p) :: ps

/-- Without leading blanks. -/
def dropBlanks : List Char → List Char
  | [] => []
  | c :: cs => if c = ' ' ∨ c = '\t' then dropBlanks cs else c :: cs

/-- Without leading and trailing blanks. -/
def trim (cs : List Char) : List Char := (dropBlanks (dropBlanks cs).reverse).reverse

/-- The value of a digit. -/
def digit? (base : Nat) (c : Char) : Option Nat :=
  let n := c.toNat
  let d := if 48 ≤ n ∧ n ≤ 57 then n - 48
    else if 97 ≤ n ∧ n ≤ 102 then n - 87
    else if 65 ≤ n ∧ n ≤ 70 then n - 55
    else base
  if d < base then some d else none

/-- A number in a base, at least one digit. -/
def number? (base : Nat) : List Char → Option Nat
  | [] => none
  | cs => cs.foldl (fun acc c => do return base * (← acc) + (← digit? base c)) (some 0)

/-- An integer, decimal or 0x hexadecimal (R95). -/
def nat? : List Char → Option Nat
  | '0' :: 'x' :: cs => number? 16 cs
  | cs => number? 10 cs

/-- An integer with an optional leading minus sign (R95: SETSTR). -/
def int? : List Char → Option Int
  | '-' :: cs => (nat? cs).map fun n => -(n : Int)
  | cs => (nat? cs).map fun n => (n : Int)

/-- A rational n/d, or a bare n that means n/1 (R95). -/
def fraction? (cs : List Char) : Option (Int × Nat) :=
  match splitAtChar '/' cs with
  | [n] => do return (← int? (trim n), 1)
  | [n, d] => do return (← int? (trim n), ← nat? (trim d))
  | _ => none

/-- A direction (R95). -/
def dir? (cs : List Char) : Option Dir :=
  if cs = "FWD".toList then some .forward
  else if cs = "BWD".toList then some .backward
  else none

/-- A pin state (R95). -/
def pin? (cs : List Char) : Option PinState :=
  if cs = "ON".toList then some .on
  else if cs = "OFF".toList then some .off
  else none

/-- A mnemonic of the assembler with its operands' texts (R95, R96). -/
def command? (name : List Char) (ops : List (List Char)) : Option Asm :=
  if name = "INIT".toList ∧ ops = [] then some .init
  else if name = "GETFREQ".toList ∧ ops = [] then some .getfreq
  else if name = "SWRESET".toList ∧ ops = [] then some .swreset
  else if name = "IDLE".toList ∧ ops = [] then some .idle
  else if name = "STOP".toList ∧ ops = [] then some .stop
  else if name = "ALLLOW".toList ∧ ops = [] then some .alllow
  else if name = "FULLSTR".toList ∧ ops = [] then some .fullstr
  else match ops with
  | [x] =>
    if name = "SETFREQ".toList then do
      let (n, d) ← fraction? x
      if 0 ≤ n ∧ x.head? ≠ some '-' then return .setfreq n.toNat d else none
    else if name = "SETSTR".toList then do
      let (n, d) ← fraction? x
      return .setstr n d
    else if name = "PINON".toList then (nat? x).map .pinon
    else if name = "PINOFF".toList then (nat? x).map .pinoff
    else if name = "STEPF".toList then (nat? x).map .stepf
    else if name = "STEPB".toList then (nat? x).map .stepb
    else none
  | [x, y] =>
    if name = "WRALL".toList then do return .wrall (← nat? x) (← nat? y)
    else if name = "SETPIN".toList then do return .setpin (← nat? x) (← pin? y)
    else if name = "STEP".toList then do return .step (← dir? x) (← nat? y)
    else none
  | [x, y, z] =>
    if name = "WRCH".toList then do return .wrch (← nat? x) (← nat? y) (← nat? z) else none
  | [a, b, c, e] =>
    if name = "COILS".toList then do return .coils (← nat? a) (← nat? b) (← nat? c) (← nat? e) else none
  | _ => none

/-- The mnemonic up to the first blank, then comma-separated operands (R95). -/
def body? (cs : List Char) : Option Asm :=
  let name := cs.takeWhile fun c => c ≠ ' ' ∧ c ≠ '\t'
  let rest := trim (cs.drop name.length)
  command? name (if rest = [] then [] else (splitAtChar ',' rest).map trim)

/-- A line with its port prefix `pN:`, port 0 without one (R95). -/
def line? (text : List Char) : Option (Nat × Asm) :=
  match trim text with
  | 'p' :: cs =>
    let digits := cs.takeWhile fun c => c ≠ ':'
    match cs.drop digits.length with
    | ':' :: rest => do return (← nat? digits, ← body? (trim rest))
    | _ => none
  | cs => (body? cs).map fun a => (0, a)

/-- The assembler: the port a line offers its command on and the word; none where the line is refused (R95). -/
def assemble (text : String) : Option (Nat × Word) := do
  let (p, a) ← line? text.toList
  return (p, encode (← a.instr))

end Sys2Proof.Machine
end

