-- ==== Sys2Proof/Machine/Memory.lean ====
section
/-! DEFINITION. Sys2Proof/Machine/Memory.lean: a sparse image of a byte-wide register space, in one canonical form:
addresses strictly rising. An unlisted address has no known value (10_state.md R41; log 17). The block itself has no
memory (20_memory.md R50); the images below are views of the chip that the trace gives. -/

namespace Sys2Proof.Machine

/-- Known (address, byte) pairs. -/
abbrev Memory := List Host.Cell

/-- The canonical form. -/
abbrev Memory.wf (m : Memory) : Prop := m.Pairwise fun x y => x.1 < y.1

/-- The known byte at an address; `none` where nothing is known. -/
def Memory.read : Memory → Nat → Option Byte
  | [], _ => none
  | (b, y) :: m, a => if a = b then some y else Memory.read m a

/-- The image after address a is known to hold v. -/
def Memory.write : Memory → Nat → Byte → Memory
  | [], a, v => [(a, v)]
  | (b, y) :: m, a, v =>
    if a < b then (a, v) :: (b, y) :: m
    else if a = b then (a, v) :: m
    else (b, y) :: Memory.write m a v

/-- The image after nothing is known any more of the addresses in `gone`. -/
def Memory.forget (gone : Nat → Bool) (m : Memory) : Memory := m.filter fun c => !gone c.1

/-- The image after an address is known to hold v, or after it may hold anything. -/
def Memory.update (m : Memory) (a : Nat) : Option Byte → Memory
  | some v => m.write a v
  | none => m.forget (· == a)

end Sys2Proof.Machine
end

