-- ==== Sys2Proof/Machine/Chip.lean ====
section
/-! DEFINITION. Sys2Proof/Machine/Chip.lean: what the event trace says of the external PWM chip, as far as the source
states it (10_state.md R37 to R41, 60_exceptions.md R221 to R226, 70_reset_and_hazards.md R259). The block holds none of
this (R23) and no meaning reads it: it is a function of the trace, for a host's claims. Everything starts unknown (R41,
R242); a write answered `err` leaves its register unknown (R59); a software reset leaves everything unknown (R226). The
register-file device of R74 stands beside it. Log 17, log 24, log 25. -/

namespace Sys2Proof.Machine

/-- What is known of the chip's oscillator (R224). -/
inductive Oscillator where
  | unknown
  /-- MODE1 SLEEP is set: "a set SLEEP bit stops the oscillator" -/
  | stopped
  /-- SLEEP has been cleared after that and RESTART not yet written: the clock's first reading since, and whether a
  reading WAIT_MS or more after it has been taken -/
  | released (since : Option Rat) (waited : Bool)
  /-- RESTART was written after the stabilization time: "resume[s] oscillator" -/
  | running
deriving DecidableEq, Repr

/-- The oscillator after MODE1 takes the byte m: SLEEP stops it; SLEEP cleared on a stopped oscillator releases it;
RESTART resumes a released one, once the chip has had its ≥ 5 ms (R224). What RESTART does sooner, or to an oscillator
of which nothing is known, is not in source: unknown. A byte that clears SLEEP and has RESTART set, on a stopped
oscillator (INIT's step 5 on 0x91, SETFREQ's restore of 0x81), is taken as a release only: whether it resumes as well is
not in source (91_not_in_source.md N28; log 24). -/
def Oscillator.afterWrite (m : Byte) (o : Oscillator) : Oscillator :=
  if m &&& maskSleep != 0 then .stopped
  else match o with
    | .unknown => .unknown
    | .stopped => .released none false
    | .released since waited =>
      if m &&& maskRestart = 0 then .released since waited else if waited then .running else .unknown
    | .running => .running

/-- The oscillator after MODE1 is read as the byte m: SLEEP set says that it is stopped; SLEEP clear on an oscillator
thought stopped says that the chip did something the source does not give. -/
def Oscillator.afterRead (m : Byte) (o : Oscillator) : Oscillator :=
  if m &&& maskSleep != 0 then .stopped else if o = .stopped then .unknown else o

/-- The oscillator after a clock reading: the stabilization time counts from the first reading after SLEEP was cleared
(R220, R224). -/
def Oscillator.afterClock (t : Rat) : Oscillator → Oscillator
  | .unknown => .unknown
  | .stopped => .stopped
  | .released none waited => .released (some t) waited
  | .released (some t0) waited => .released (some t0) (waited || decide (waitMs ≤ t - t0))
  | .running => .running

/-- What is known of the chip: the registers, the bytes that drive each channel's output (R40, R223), and the
oscillator. -/
structure Chip where
  /-- register address and the last byte it is known to have taken; whether RESTART and the other bits of MODE1 read
  back so is not in source (91_not_in_source.md N28; log 17) -/
  regs : Memory
  /-- channel register address and the byte in effect there, the channel's own or the broadcast's; in effect from its
  write on, also while the chip sleeps, when it "may not act on" it (R259): DESIGN CHOICE, log 25 -/
  drive : Memory
  /-- those of `drive` that a broadcast put in effect, and no per-channel write since -/
  broadcast : Memory
  /-- the oscillator -/
  osc : Oscillator
deriving DecidableEq, Repr

/-- Nothing is known (R41, R242). -/
def Chip.unknown : Chip := ⟨[], [], [], .unknown⟩

/-- A register of the broadcast group, 0xFA to 0xFD (R53). -/
def isBroadcastReg (a : Nat) : Bool := decide (0xFA ≤ a) && decide (a ≤ 0xFD)

/-- A register of a channel group, 0x06 to 0x45 (R52). -/
def isChannelReg (a : Nat) : Bool := decide (0x06 ≤ a) && decide (a ≤ 0x45)

/-- The byte in effect at one offset of all sixteen channel groups (R223). -/
def driveAll (m : Memory) (offset : Nat) (v : Option Byte) : Memory :=
  (List.range numChannels).foldl (fun m n => m.update (0x06 + 4 * n + offset) v) m

/-- A broadcast register takes v, or anything. It is in effect on every channel at once; whether it changes the channels'
own registers is not in source (91_not_in_source.md N24), so nothing is known of them afterwards (R223). Whether a
sleeping chip acts on it before the restart is open (R259); the view puts it in effect at once (log 25). -/
def Chip.putBroadcast (k : Chip) (a : Nat) (v : Option Byte) : Chip :=
  { k with
    regs := (k.regs.forget isChannelReg).update a v
    drive := driveAll k.drive (a - 0xFA) v
    broadcast := driveAll k.broadcast (a - 0xFA) v }

/-- A channel register takes v, or anything: a per-channel write ends the broadcast there (R223; byte by byte, log
17). Whether a sleeping chip acts on it before the restart is open (R259); the view puts it in effect at once (log
25). -/
def Chip.putChannel (k : Chip) (a : Nat) (v : Option Byte) : Chip :=
  { k with regs := k.regs.update a v, drive := k.drive.update a v, broadcast := k.broadcast.forget (· == a) }

/-- PRESCALE is written v, or anything. Whether the chip takes the write while SLEEP is clear is not in source (R224), nor
whether it holds a byte below 3 as written (91_not_in_source.md N13), so PRESCALE is known afterwards only where SLEEP is
known to be set and the byte is at least 3 (log 24). -/
def Chip.putPrescale (k : Chip) (v : Option Byte) : Chip :=
  { k with
    regs := k.regs.update regPrescale.toNat
      (if k.osc = .stopped then v.filter fun b => decide (3 ≤ b.toNat) else none) }

/-- MODE1 takes v, or anything, and with it the oscillator (R37, R224). -/
def Chip.putMode1 (k : Chip) (v : Option Byte) : Chip :=
  { k with
    regs := k.regs.update regMode1.toNat v
    osc := (v.map fun m => k.osc.afterWrite m).getD .unknown }

/-- Register a is written v, or anything. -/
def Chip.put (k : Chip) (a : Nat) (v : Option Byte) : Chip :=
  if isBroadcastReg a then k.putBroadcast a v
  else if isChannelReg a then k.putChannel a v
  else if a = regPrescale.toNat then k.putPrescale v
  else if a = regMode1.toNat then k.putMode1 v
  else { k with regs := k.regs.update a v }

/-- Register a was read as b. -/
def Chip.seen (k : Chip) (a : Nat) (b : Byte) : Chip :=
  { k with regs := k.regs.write a b, osc := if a = regMode1.toNat then k.osc.afterRead b else k.osc }

/-- What one event adds. -/
def Chip.learn (p : Params) (k : Chip) : Event → Chip
  | .write _ dev reg v .ok => if dev = p.dev then k.put reg.toNat (some v) else k
  | .write _ dev reg _ .err => if dev = p.dev then k.put reg.toNat none else k
  | .read _ dev reg (.ok b) => if dev = p.dev then k.seen reg.toNat b else k
  | .read _ _ _ .err => k
  | .send _ _ _ _ => Chip.unknown
  | .accept _ _ => k
  | .clock _ t => { k with osc := k.osc.afterClock t }
  | .wait _ _ => k
  | .respond _ _ => k
  | .fault _ _ => k

/-- What a trace says of the chip. -/
def Chip.ofTrace (p : Params) (k : Chip) (tr : List Event) : Chip := tr.foldl (Chip.learn p) k

/-- What the block's trace says of the chip. -/
def State.chip (s : State) : Chip := Chip.ofTrace s.params Chip.unknown s.trace

/-! ### The register-file device of 20_memory.md R74: a device to run tests with, not the chip -/

/-- The last byte written to each register, after one event. -/
def registerFileStep (m : Memory) : Event → Memory
  | .write _ _ reg v _ => m.write reg.toNat v
  | .read _ _ _ _ => m
  | .send _ _ _ _ => m
  | .accept _ _ => m
  | .clock _ _ => m
  | .wait _ _ => m
  | .respond _ _ => m
  | .fault _ _ => m

/-- The last byte written to each register, after a trace. -/
def registerFile (m : Memory) (tr : List Event) : Memory := tr.foldl registerFileStep m

/-- An answer a register-file device gives: every transaction succeeds, and a read of a register with a known byte is
answered with it. -/
def answersAsRegisterFile (m : Memory) : Event → Bool
  | .read _ _ reg (.ok b) => (m.read reg.toNat).all (· == b)
  | .read _ _ _ .err => false
  | .write _ _ _ _ a => a == .ok
  | .send _ _ _ a => a == .ok
  | .accept _ _ => true
  | .clock _ _ => true
  | .wait _ _ => true
  | .respond _ _ => true
  | .fault _ _ => true

/-- The trace is one a register-file device answered, from the start values m (R74). -/
def registerFileTrace : Memory → List Event → Bool
  | _, [] => true
  | m, e :: tr => answersAsRegisterFile m e && registerFileTrace (registerFileStep m e) tr

/-! ### What drives the outputs -/

/-- A tick value from its two registers: L + 256 * H (R40, R56). -/
def tickOf (l h : Byte) : Nat := l.toNat + 256 * h.toNat

/-- What drives a channel's output (R40, R222, R223). -/
inductive Drive where
  | unknown
  /-- (0, 0) written to the broadcast group "forces all outputs low" (R223) -/
  | forcedLow
  | alwaysOn
  | alwaysOff
  /-- both sentinel bits are set: "the result is not in source" (R222; 91_not_in_source.md N19) -/
  | bothSentinels
  /-- the counter positions at which the output turns on and off -/
  | ticks (onTick offTick : Nat)
deriving DecidableEq, Repr

/-- The sentinel bit of a tick value, bit 12, the bit of 4096 (R222). -/
def sentinelBit (v : Nat) : Bool := v.testBit 12

/-- The drive that a channel's tick pair stands for (R40, R222). What a pair with equal ticks outputs is not in source
(91_not_in_source.md N19), nor what a value does that is neither 4096 nor a counter position, such as the 0x10FF that
interleaved group writes can leave: unknown where no sentinel of R222 decides (log 17). -/
def Drive.ofPair (onTick offTick : Nat) : Drive :=
  if sentinelBit onTick && sentinelBit offTick then .bothSentinels
  else if onTick = tickSentinel then .alwaysOn
  else if offTick = tickSentinel then .alwaysOff
  else if onTick ≤ tickMax ∧ offTick ≤ tickMax then .ticks onTick offTick
  else .unknown

/-- The tick pair that four bytes of channel n's group hold, where all four are known. -/
def tickPair (m : Memory) (n : Nat) : Option (Nat × Nat) :=
  match m.read (0x06 + 4 * n), m.read (0x07 + 4 * n), m.read (0x08 + 4 * n), m.read (0x09 + 4 * n) with
  | some onL, some onH, some offL, some offH => some (tickOf onL onH, tickOf offL offH)
  | _, _, _, _ => none

/-- The drive of channel n: forced low where a broadcast (0, 0) is in effect on it (R223), else as its bytes in effect
say, where they are known. It is the drive of a chip that acts on every byte at once; a sleeping chip may not act on one
until the restart (R259; log 25). -/
def Chip.channel (k : Chip) (n : Nat) : Drive :=
  if tickPair k.broadcast n = some (0, 0) then .forcedLow
  else match tickPair k.drive n with
    | some (onTick, offTick) => Drive.ofPair onTick offTick
    | none => .unknown

/-- The output frequency, where PRESCALE is known (R39, R221). -/
def Chip.freq (k : Chip) : Option Rat := (k.regs.read regPrescale.toNat).map freqOf

/-- The chip is asleep, its oscillator stopped (R224). Where SLEEP is cleared and RESTART not yet written, the source says
so only of a SETFREQ in flight: see `State.chipAsleep`. -/
def Chip.asleep (k : Chip) : Option Bool :=
  match k.osc with
  | .unknown => none
  | .stopped => some true
  | .released _ _ => none
  | .running => some false

/-- A SETFREQ is between its sleep-mode write and its restart write (R140, R259). -/
def Ctx.betweenSleepAndRestart (c : Ctx) : Bool :=
  match c.cmd with
  | some (.setfreq _ _) => decide (2 ≤ c.pos) && decide (c.pos ≤ 5)
  | _ => false

/-- Some SETFREQ is between those two writes. -/
def State.setfreqAsleep (s : State) : Bool :=
  s.ports.any fun q => (q.ctx.map Ctx.betweenSleepAndRestart).getD false

/-- The chip is asleep: as its oscillator says, and, while a SETFREQ is in flight, "from its sleep-mode write until its
restart write" (R259). Where another SETFREQ's restart has resumed the oscillator in between, R224 and R259 say
different things, and the answer is unknown (log 24). -/
def State.chipAsleep (s : State) : Option Bool :=
  match s.chip.osc with
  | .unknown => none
  | .stopped => some true
  | .released _ _ => if s.setfreqAsleep then some true else none
  | .running => if s.setfreqAsleep then none else some false

/-- MODE1 ALLCALL set: the all-call address is enabled (R37, R225). -/
def Chip.allCall (k : Chip) : Option Bool := (k.regs.read regMode1.toNat).map fun m => m &&& maskAllcall != 0

/-- MODE2 OUTDRV set: totem-pole outputs (R38, R225). -/
def Chip.totemPole (k : Chip) : Option Bool := (k.regs.read regMode2.toNat).map fun m => m &&& maskOutdrv != 0

end Sys2Proof.Machine
end

