-- ==== Sys2Proof/Safety.lean ====
section
/-! DEFINITION. Sys2Proof/Safety.lean: the terms claims are stated in: the end of a run (20_memory.md R76), a command run
alone, what may stand in the trace, and the invariants of the block. -/

namespace Sys2Proof.Machine

/-- A turn that offers a command. -/
def Turn.isOffer : Turn → Bool
  | .offer _ _ => true
  | .run _ => false

/-- A final state (R76): every port idle, no further command offered, `faulted` empty, `refused` = 0. -/
def State.final (s : State) : Bool :=
  s.ports.all (fun q => !q.busy) && s.env.turns.all (fun t => !t.isOffer) && s.faulted == FaultSet.empty && !s.refused

/-- k segments of command i, one after the other on port `cur`, with no other port's segment between them. -/
def runSegments (i : Instr) : Nat → State → Host.Outcome State Fault Refusal
  | 0, s => .next s
  | k + 1, s =>
    match exec i s with
    | .next t => runSegments i k t
    | .fault r => .fault r
    | .refused r => .refused r

/-- The `Write` events that a list of register writes, each answered `ok`, leaves in the trace of port p (R73). -/
def writeEvents (p : Nat) (dev : DevAddr) (ws : List RegWrite) : List Event :=
  ws.map fun w => .write p dev w.reg w.val .ok

/-- The port after a response: idle, no context, the response posted (R31, R98). -/
def Port.answeredWith (r : Response) : Port := ⟨false, none, some r⟩

end Sys2Proof.Machine

namespace Sys2Proof

open Sys2Proof.Machine

/-- The commands that need `ready` = 1 (R202). -/
def Instr.needsReady : Instr → Bool
  | .init => false
  | .swreset => false
  | .stop => false
  | .wrch _ _ _ => true
  | .wrall _ _ => true
  | .setpin _ _ => true
  | .setfreq _ _ => true
  | .getfreq => true
  | .setstr _ _ => true
  | .coils _ => true
  | .idle => true
  | .step _ _ => true

/-- The command is INIT. -/
def Instr.isInit : Instr → Bool
  | .init => true
  | _ => false

/-- The command is SETSTR. -/
def Instr.isSetstr : Instr → Bool
  | .setstr _ _ => true
  | _ => false

/-- The command is SETFREQ. -/
def Instr.isSetfreq : Instr → Bool
  | .setfreq _ _ => true
  | _ => false

/-- The command is STEP. -/
def Instr.isStep : Instr → Bool
  | .step _ _ => true
  | _ => false

/-- The command is STOP. -/
def Instr.isStop : Instr → Bool
  | .stop => true
  | _ => false

/-- The command runs UpdateCoils: COILS, IDLE or STEP (R30). -/
def Instr.updatesCoils : Instr → Bool
  | .coils _ => true
  | .idle => true
  | .step _ _ => true
  | _ => false

/-- The position of the last segment of a command; for STEP, of an iteration. -/
def Instr.lastPos : Instr → Nat
  | .init => 11
  | .wrch _ _ _ => 4
  | .wrall _ _ => 4
  | .setpin _ _ => 4
  | .setfreq _ _ => 6
  | .getfreq => 1
  | .swreset => 1
  | .setstr _ _ => 8
  | .coils _ => 16
  | .idle => 16
  | .step _ _ => 17
  | .stop => 0

/-- The segment at a position starts with the answer of a transaction, not with a wait's clock reading (R71). -/
def Instr.afterTransaction (i : Instr) (pos : Nat) : Bool :=
  decide (0 < pos) && decide (pos ≤ i.lastPos) &&
  match i with
  | .init => pos != 7 && pos != 10
  | .setfreq _ _ => pos != 5
  | .step _ _ => pos != 17
  | _ => true

/-- Operands that pass the checks of a command's segment 1 (R204, R141). -/
def Instr.operandsValid : Instr → Bool
  | .wrch ch onTick offTick => validCh ch.toNat && validTick onTick.toNat && validTick offTick.toNat
  | .wrall onTick offTick => validTick onTick.toNat && validTick offTick.toNat
  | .setpin ch _ => validCh ch.toNat
  | .setfreq num den => num != 0 && decide (0 ≤ prescaleOf (freqOperand num den)) &&
      decide (prescaleOf (freqOperand num den) ≤ 255)
  | .setstr num den => validTick (dutyOf (strOperand num den))
  | _ => true

end Sys2Proof

namespace Sys2Proof.Machine

/-- The register addresses the block writes: 0x00, 0x01, 0x06 to 0x45, 0xFA to 0xFD and 0xFE (R54). -/
def legalReg (r : Byte) : Bool :=
  r == regMode1 || r == regMode2 || isChannelReg r.toNat || isBroadcastReg r.toNat || r == regPrescale

/-- What the block may leave in the trace: transactions only to the registers of R54 at DEVICE_ADDR and the
software-reset byte to RESET_TARGET_ADDR (R50), reads of MODE1 and PRESCALE only (R62), no write of MODE2 but INIT's
(R38, R117), clock values not below 0 (R219). -/
def Event.allowed (p : Params) : Event → Bool
  | .write _ dev reg v _ => dev == p.dev && legalReg reg && (reg != regMode2 || v == maskOutdrv)
  | .read _ dev reg _ => dev == p.dev && (reg == regMode1 || reg == regPrescale)
  | .send _ dev b _ => dev == p.resetDev && b == swrstByte
  | .clock _ t => decide (0 ≤ t)
  | .accept _ _ => true
  | .wait _ _ => true
  | .respond _ _ => true
  | .fault _ _ => true

/-- A context between two steps: either its word waits for segment 1, or it holds the word's command, past segment 1
and with operands that passed its checks. -/
def Ctx.sound (c : Ctx) : Prop :=
  match c.cmd with
  | none => c.pos = 0
  | some i => decode c.word = .legal i ∧ 0 < c.pos ∧ c.pos ≤ i.lastPos ∧ i.operandsValid = true

/-- A port between two steps: an idle port has no context; a busy one belongs to a block that was not refused (R207). -/
def Port.sound (p : Params) (q : Port) : Prop :=
  (q.busy = false → q.ctx = none) ∧ (q.busy = true → p.ok = true) ∧ ∀ c, q.ctx = some c → c.sound

/-- The invariant of the block. -/
structure State.Inv (s : State) : Prop where
  /-- the ports are 0 to NUM_PORTS − 1 (R227) -/
  portCount : s.ports.length = s.params.numPorts
  /-- `refused` is the configuration check's outcome (R207, R240) -/
  refusal : s.refused = !s.params.ok
  /-- `lastClock` is not negative (R34) -/
  clock : 0 ≤ s.lastClock
  /-- every port is sound -/
  ports : ∀ q ∈ s.ports, q.sound s.params
  /-- every event is one the block may leave -/
  events : ∀ e ∈ s.trace, e.allowed s.params = true

/-- Port p holds a STEP command past segment 1: a step loop. -/
def State.inLoop (s : State) (p : Nat) : Prop :=
  ∃ c dir count, s.ctxAt p = some c ∧ c.cmd = some (.step dir count) ∧ 0 < c.pos

/-- There is at most one step loop, and `seqState` says whether there is one (R27, R188, R190). -/
structure State.LoopInv (s : State) : Prop where
  one : ∀ p q, s.inLoop p → s.inLoop q → p = q
  flag : s.seqState = .stepping ↔ ∃ p, s.inLoop p

/-- The loop context of a step loop is timed soundly: iteration i + 1 started at least i intervals after iteration 1,
and the wait under way, if any, ends an interval after that start (R180, R181). -/
structure Ctx.Timed (s : State) (c : Ctx) : Prop where
  more : c.i < c.count.toNat
  start : ∃ t0, c.tFirst = some t0 ∧ t0 + c.i * s.params.interval ≤ c.tS
  past : c.tS ≤ s.lastClock
  wait : c.pos = 17 → c.deadline = some (c.tS + s.params.interval)

/-- Every OK response of STEP reports a duration of at least steps × interval (R181), and every loop context is timed
so that the next ones will. -/
structure State.DurationInv (s : State) : Prop where
  loops : ∀ p c dir count, s.ctxAt p = some c → c.cmd = some (.step dir count) → 0 < c.pos → c.Timed s
  reported : ∀ p steps dir duration cancelled,
    Event.respond p ⟨.ok, .stepped steps dir duration cancelled⟩ ∈ s.trace →
    steps.toNat * s.params.interval ≤ duration

/-! ### The read-modify-write discipline of MODE1 (40_driver.md R117) -/

/-- The port whose command an event belongs to (R73). -/
def Event.port : Event → Nat
  | .accept p _ => p
  | .write p _ _ _ _ => p
  | .read p _ _ _ => p
  | .send p _ _ _ => p
  | .clock p _ => p
  | .wait p _ => p
  | .respond p _ => p
  | .fault p _ => p

/-- An event at which a command starts or ends (R70, R98, R206). -/
def Event.bounds : Event → Bool
  | .accept _ _ => true
  | .respond _ _ => true
  | .fault _ _ => true
  | .write _ _ _ _ _ => false
  | .read _ _ _ _ => false
  | .send _ _ _ _ => false
  | .clock _ _ => false
  | .wait _ _ => false

/-- The events of the command that port p ran last, in execution order: those of p since its last acceptance, response
or fault. -/
def commandEvents (p : Nat) (tr : List Event) : List Event :=
  ((tr.filter fun e => e.port == p).reverse.takeWhile fun e => !e.bounds).reverse

/-- The command that port p ran last has read the byte b from MODE1. -/
def readsMode1 (dev : DevAddr) (p : Nat) (b : Byte) (tr : List Event) : Prop :=
  Event.read p dev regMode1 (.ok b) ∈ commandEvents p tr

/-- The last event of that command is INIT's step 2, the write of MODE2. -/
def atInitStep3 (dev : DevAddr) (p : Nat) (tr : List Event) : Prop :=
  (commandEvents p tr).getLast? = some (.write p dev regMode2 maskOutdrv .ok)

/-- A write of v to MODE1 by port p after the events tr keeps R117: it is INIT's step 3, or v is a byte that the same
command read from MODE1, or one of R116's functions of such a byte. -/
def modeWriteLegal (dev : DevAddr) (p : Nat) (v : Byte) (tr : List Event) : Prop :=
  (v = maskAllcall ∧ atInitStep3 dev p tr) ∨
  ∃ b, readsMode1 dev p b tr ∧ (v = b ∨ v = sleepByte b ∨ v = wakeByte b ∨ v = restartByte b)

/-- The answer a context waits to use, where it is not `err`, is a byte the command read from MODE1. -/
def Ctx.answerReadMode1 (dev : DevAddr) (p : Nat) (tr : List Event) (c : Ctx) : Prop :=
  c.answer = .err ∨ ∃ b, c.answer = .okByte b ∧ readsMode1 dev p b tr

/-- What a context holds for its next writes of MODE1 comes from its own command's events (R120, R140). -/
def Ctx.modeSound (dev : DevAddr) (p : Nat) (tr : List Event) (c : Ctx) : Prop :=
  match c.cmd with
  | some .init =>
    (c.pos = 5 → c.answer = .err ∨ atInitStep3 dev p tr) ∧ (c.pos = 8 → c.answerReadMode1 dev p tr)
  | some (.setfreq _ _) =>
    (c.pos = 1 → c.answerReadMode1 dev p tr) ∧ (2 ≤ c.pos → readsMode1 dev p c.old tr)
  | _ => True

/-- Every write of MODE1 outside INIT's step 3 is the identity or an R116 function of a byte that the same command read
from MODE1 (R117), and the contexts hold what makes the next ones so. -/
structure State.ModeInv (s : State) : Prop where
  writes : ∀ es p dev v a rest, s.trace = es ++ Event.write p dev regMode1 v a :: rest →
    modeWriteLegal s.params.dev p v es
  held : ∀ p c, s.ctxAt p = some c → c.modeSound s.params.dev p s.trace

end Sys2Proof.Machine
end

