-- ==== Sys2Proof/Certificates/Slice0/Obligations.lean ====
section
/-! DEFINITION. Sys2Proof/Certificates/Slice0/Obligations.lean: the statements for the provers. `exec i s` runs the next
segment (20_memory.md R71) of command i on port `cur`, whose context is `s.ctx?`. A statement speaks of every
configuration, because `s.params` is any. Wherever a statement shows a port after a response or a fault, that its context
is empty is log 9. -/

open Sys2Proof Sys2Proof.Machine

/-! ## Encodings -/

/-- A word is the command i exactly when i is well formed and its encoding is that word (30_encoding.md R82 to R94). -/
def Obligations.DecodeEncodeBijection : Prop :=
  ∀ (w : Word) (i : Instr), decode w = .legal i ↔ i.wf = true ∧ encode i = w

/-- The decoder and spec/opcode_table.json agree, and no two rows of the table share a word (R90). -/
def Obligations.DecodeAgreesWithOpcodeTable : Prop :=
  (∀ (w : Word) (i : Instr), decode w = .legal i →
    ∃ r ∈ opcodeTable, r.mnemonic = i.mnemonic ∧ r.matches w = true) ∧
  (∀ (w : Word), ∀ r ∈ opcodeTable, r.matches w = true →
    (r.mnemonic = "SETFREQ" ∨ r.mnemonic = "SETSTR" → field w 0 24 ≠ 0) →
    ∃ i, decode w = .legal i ∧ i.mnemonic = r.mnemonic) ∧
  (∀ (w : Word), ∀ r ∈ opcodeTable, ∀ r' ∈ opcodeTable, r.matches w = true → r'.matches w = true → r = r')

/-- A word is illegal in exactly the three cases of R92: (a) an unknown opcode, (b) a nonzero field that the format
requires to be 0, (c) format Q with DEN = 0. -/
def Obligations.IllegalWordsAreTheThreeCases : Prop :=
  ∀ (w : Word), (∃ e, decode w = .illegal e) ↔
    opcode w ∉ [0x01#8, 0x02#8, 0x03#8, 0x04#8, 0x05#8, 0x06#8, 0x07#8, 0x10#8, 0x11#8, 0x12#8, 0x13#8, 0x14#8] ∨
    (opcode w ∈ [0x01#8, 0x06#8, 0x07#8, 0x12#8, 0x14#8] ∧ field w 0 56 ≠ 0) ∨
    (opcode w = 0x02#8 ∧ field w 0 16 ≠ 0) ∨
    (opcode w = 0x03#8 ∧ (field w 48 8 ≠ 0 ∨ field w 0 16 ≠ 0)) ∨
    (opcode w = 0x04#8 ∧ field w 1 47 ≠ 0) ∨
    (opcode w = 0x11#8 ∧ field w 4 52 ≠ 0) ∨
    (opcode w = 0x13#8 ∧ (field w 49 7 ≠ 0 ∨ field w 32 16 ≠ 0)) ∨
    (opcode w ∈ [0x05#8, 0x10#8] ∧ field w 0 24 = 0)

/-- Words written out from R83 to R90 decode to the commands they stand for (a sanity statement). -/
def Obligations.SampleWordsDecode : Prop :=
  decode 0x0100000000000000 = .legal .init ∧
  decode 0x02030FFF00010000 = .legal (.wrch 3 4095 1) ∧
  decode 0x030000000FFF0000 = .legal (.wrall 0 4095) ∧
  decode 0x040A000000000001 = .legal (.setpin 10 .on) ∧
  decode 0x05000000EF00000A = .legal (.setfreq 239 10) ∧
  decode 0x0600000000000000 = .legal .getfreq ∧
  decode 0x0700000000000000 = .legal .swreset ∧
  decode 0x10FFFFFFFF001FFE = .legal (.setstr 0xFFFFFFFF 8190) ∧
  decode 0x1100000000000005 = .legal (.coils 0b0101) ∧
  decode 0x1200000000000000 = .legal .idle ∧
  decode 0x1301000000000002 = .legal (.step .backward 2) ∧
  decode 0x1400000000000000 = .legal .stop ∧
  decode 0x1300000100000001 = .illegal .reservedNotZero ∧
  decode 0x0500000640000000 = .illegal .zeroDenominator ∧
  decode 0x0800000000000000 = .illegal .unknownOpcode

/-- Each pseudo-instruction stands for the word of its expansion (R96). -/
def Obligations.PseudoInstructionsExpand : Prop :=
  (∀ ch, (Asm.pinon ch).instr = (Asm.setpin ch .on).instr ∧ (Asm.pinoff ch).instr = (Asm.setpin ch .off).instr) ∧
  (∀ n, (Asm.stepf n).instr = (Asm.step .forward n).instr ∧ (Asm.stepb n).instr = (Asm.step .backward n).instr) ∧
  Asm.alllow.instr = some (.wrall 0 0) ∧ Asm.fullstr.instr = some (.setstr 1 1) ∧
  assemble "SETFREQ 1600" = assemble "SETFREQ 1600/1" ∧
  assemble "p1: STEP BWD, 1" = some (1, 0x1301000000000001)

/-! ## Steps of the block -/

/-- The scheduler picks port p, whose command in flight is i (decoded before, or decoded now in segment 1): the step
is the next segment of i, on port p, with the command held in the context. A loaded word runs as the very next step
(R70 to R72; the queue of turns is the model's, log 3 and log 16). -/
def Obligations.StepRunsTheDecodedSegment : Prop :=
  (∀ (s : State) (p : Nat) (rest : List Turn) (c : Ctx) (i : Instr),
    s.env.turns = .run p :: rest → s.ctxAt p = some c →
    (c.cmd = some i ∨ (c.cmd = none ∧ decode c.word = .legal i)) →
    step s = exec i { s with
      cur := p
      env := { s.env with turns := rest }
      ports := s.ports.modify p fun q => { q with ctx := q.ctx.map fun c => { c with cmd := some i } } }) ∧
  (∀ (s : State) (nbits w : Nat) (i : Instr), s.ports ≠ [] → decodeTableWord nbits w = some i →
    step (s.withFetchWord nbits w) = exec i { s with
      cur := 0
      ports := s.ports.modify 0 fun q =>
        { q with busy := true, ctx := some { Ctx.fresh (tableWord nbits w) with cmd := some i } } })

/-- An illegal word ends with ILLEGAL_COMMAND in its first segment: no transaction, and nothing of the block changes
but the port (R201). The trace gains the response; `cur` and the queue of turns are the model's (log 3, log 8). -/
def Obligations.IllegalWordIsAnsweredInSegmentOne : Prop :=
  ∀ (s : State) (p : Nat) (rest : List Turn) (c : Ctx) (e : DecodeError),
    s.env.turns = .run p :: rest → s.ctxAt p = some c → c.cmd = none → decode c.word = .illegal e →
    step s = .next { s with
      cur := p
      env := { s.env with turns := rest }
      trace := s.trace ++ [.respond p ⟨.illegalCommand, .none⟩]
      ports := s.ports.modify p fun _ => ⟨false, none, some ⟨.illegalCommand, .none⟩⟩ }

/-- An offer is accepted when the port is not busy and the configuration is not refused: `busy` is set, the context is
cleared, the word is stored and segment 1 is enabled (R70, R207). Otherwise nothing changes but the queue of turns (the
model's choice, log 4). -/
def Obligations.OffersAreAcceptedWhenIdle : Prop :=
  ∀ (s : State) (p : Nat) (w : Word) (rest : List Turn), s.env.turns = .offer p w :: rest →
    ((∃ q, s.ports[p]? = some q ∧ q.busy = false) ∧ s.refused = false →
      ∃ t, step s = .next t ∧
        t = { s with
          env := { s.env with turns := rest }
          trace := s.trace ++ [.accept p w]
          ports := s.ports.modify p fun q => { q with busy := true, ctx := some (Ctx.fresh w) } } ∧
        t.enabled p = true) ∧
    (¬((∃ q, s.ports[p]? = some q ∧ q.busy = false) ∧ s.refused = false) →
      step s = .next { s with env := { s.env with turns := rest } })

/-- The model never stops: every state has a next state (R71, R200: errors are responses). Where a turn is passed over
that is log 4's choice, where nothing is enabled log 5's, and in a faulted block log 10's, since R11 calls that block
stuck and R206 stops the command alone. -/
def Obligations.StepAlwaysAnswersNext : Prop :=
  ∀ (s : State), ∃ t, step s = .next t

/-- With no turn queued, the block stays as it is where no segment is enabled, and otherwise runs the next segment of
some enabled port (R72, R241; the fallback is log 3 and log 5). -/
def Obligations.FreeScheduleRunsSomeEnabledPort : Prop :=
  ∀ (s : State), s.env.turns = [] →
    ((∀ p, s.enabled p = false) → step s = .next s) ∧
    ((∃ p, s.enabled p = true) → ∃ p, s.enabled p = true ∧
      step s = step { s with env := { s.env with turns := [.run p], drawn := s.env.drawn + 1 } })

/-- One step adds to the trace at its end, and at most one transaction: a segment has one closing action (R65, R71,
R73). The clock does not go back (R219). -/
def Obligations.StepMakesAtMostOneTransaction : Prop :=
  ∀ (s t : State), step s = .next t →
    s.lastClock ≤ t.lastClock ∧
    ∃ es, t.trace = s.trace ++ es ∧ (es.filter Event.isBus).length ≤ 1

/-! ## Bus, clock, waits, ends of commands -/

/-- The bus primitives: one event with the environment's answer (R11, R73, R74), the next position, the answer kept for
the next segment (R71), and `wrote` set by a write or send answered `ok` (R31). That `wrote` is set in the segment that
issues the write, and not in the next one, which starts with the answer, is log 11. Nothing else changes. -/
def Obligations.BusPrimitivesAreExact : Prop :=
  ∀ (s : State) (c : Ctx), s.ctx? = some c →
    (∀ reg v, s.busWrite reg v = { s with
      env := s.env.dropAck
      trace := s.trace ++ [.write s.cur s.params.dev reg v s.env.nextAck]
      ports := s.ports.modify s.cur fun q => { q with ctx := some { c with
        pos := c.pos + 1, answer := .ofAck s.env.nextAck, wrote := c.wrote || s.env.nextAck == .ok } } }) ∧
    (∀ reg, s.busRead reg = { s with
      env := s.env.dropRead
      trace := s.trace ++ [.read s.cur s.params.dev reg s.env.nextRead]
      ports := s.ports.modify s.cur fun q => { q with ctx := some { c with
        pos := c.pos + 1, answer := .ofRead s.env.nextRead } } }) ∧
    (∀ dev b, s.busSend dev b = { s with
      env := s.env.dropAck
      trace := s.trace ++ [.send s.cur dev b s.env.nextAck]
      ports := s.ports.modify s.cur fun q => { q with ctx := some { c with
        pos := c.pos + 1, answer := .ofAck s.env.nextAck, wrote := c.wrote || s.env.nextAck == .ok } } })

/-- `ReadClock` returns a value not below `lastClock` and not negative, stores it in `lastClock`, and may return any
such value, the last one again among them (R219). -/
def Obligations.ReadClockIsMonotone : Prop :=
  (∀ (s : State), s.lastClock ≤ s.readClock.lastClock ∧ 0 ≤ s.readClock.lastClock ∧
    s.readClock.trace = s.trace ++ [.clock s.cur s.readClock.lastClock]) ∧
  (∀ (s : State) (t : Rat) (ts : List Rat), s.lastClock ≤ t → 0 ≤ t → s.env.clocks = t :: ts →
    s.readClock = { s with
      lastClock := t, trace := s.trace ++ [.clock s.cur t], env := { s.env with clocks := ts } })

/-- `WaitUntil(t)` closes its segment and registers the deadline; the command stays enabled; the next segment's first
reading is at least t and at least `lastClock`, with no upper bound (R220). -/
def Obligations.WaitsAreLowerBounds : Prop :=
  ∀ (s : State) (c : Ctx) (t : Rat), s.ctx? = some c →
    (s.waitUntil t = { s with
      trace := s.trace ++ [.wait s.cur t]
      ports := s.ports.modify s.cur fun q => { q with ctx := some { c with
        pos := c.pos + 1, answer := .nothing, deadline := some t } } }) ∧
    (s.waitUntil t).enabled s.cur = true ∧
    (∀ c', c'.deadline = some t →
      t ≤ (s.resume c').lastClock ∧ s.lastClock ≤ (s.resume c').lastClock ∧
      (s.resume c').trace = s.trace ++ [.clock s.cur (s.resume c').lastClock]) ∧
    (∀ c' u us, c'.deadline = some t → t ≤ u → s.lastClock ≤ u → 0 ≤ u → s.env.clocks = u :: us →
      (s.resume c').lastClock = u)

/-- A response is posted on the port, `busy` returns to 0 (R98), and the command has no further segment (R71): its
context is emptied, which is log 9; nothing else changes (R210). A fault adds its reason, posts nothing, leaves `busy`
and the last response as they were, and leaves no segment to run (R206): its context too is emptied (log 9). -/
def Obligations.CommandEndsAreExact : Prop :=
  ∀ (s : State),
    (∀ status data, s.respond status data = { s with
      trace := s.trace ++ [.respond s.cur ⟨status, data⟩]
      ports := s.ports.modify s.cur fun _ => ⟨false, none, some ⟨status, data⟩⟩ }) ∧
    (∀ reason, s.fault reason = { s with
        faulted := s.faulted.add reason
        trace := s.trace ++ [.fault s.cur reason]
        ports := s.ports.modify s.cur fun q => { q with ctx := none } } ∧
      (∀ r, (s.faulted.add reason).has r = (s.faulted.has r || r == reason)))

/-! ## Pure functions -/

/-- lo and hi of a tick value are its low byte and the rest, at most 0x10, and put together give the value (R110). -/
def Obligations.TickBytesSplit : Prop :=
  (∀ v, v ≤ 4096 → (loByte v).toNat = v % 256 ∧ (hiByte v).toNat = v / 256 ∧ hiByte v ≤ 0x10 ∧
    tickOf (loByte v) (hiByte v) = v) ∧
  loByte 0 = 0x00 ∧ hiByte 0 = 0x00 ∧ loByte 4095 = 0xFF ∧ hiByte 4095 = 0x0F ∧
  loByte 256 = 0x00 ∧ hiByte 256 = 0x01 ∧ loByte 4096 = 0x00 ∧ hiByte 4096 = 0x10

/-- The mode-byte functions, bit by bit: sleepByte clears RESTART and sets SLEEP, wakeByte clears SLEEP, restartByte
sets RESTART, and every other bit stays (R116). -/
def Obligations.ModeBytesChangeOnlyTheirBits : Prop :=
  ∀ (x : Byte) (k : Nat), k < 8 →
    (sleepByte x).getLsbD k = (if k = 7 then false else if k = 4 then true else x.getLsbD k) ∧
    (wakeByte x).getLsbD k = (if k = 4 then false else x.getLsbD k) ∧
    (restartByte x).getLsbD k = (if k = 7 then true else x.getLsbD k)

/-- The prescale formula on rationals, its integer formula for every positive N/D, its range, every integer from −1 on,
and 3 for 1600 Hz (R113). -/
def Obligations.PrescaleIsTheIntegerFormula : Prop :=
  (∀ (N D : Nat), 0 < N → 0 < D →
    prescaleOf ((N : Rat) / (D : Rat)) = ((50000000 * D + 4095 * N) / (8190 * N) : Nat) - 1) ∧
  (∀ f : Rat, 0 < f → prescaleOf f = ⌊25000000 / (4095 * f) + 1 / 2⌋ - 1 ∧ -1 ≤ prescaleOf f) ∧
  (∀ n : Int, -1 ≤ n → ∃ f : Rat, 0 < f ∧ prescaleOf f = n) ∧
  prescaleOf 1600 = 3

/-- The prescale fits a byte exactly when x = 25,000,000 / (4095 · f) lies in [0.5, 256.5) (R141, R256). -/
def Obligations.PrescaleFitsAByteWhen : Prop :=
  ∀ f : Rat, 0 < f →
    (prescaleOf f ≤ 255 ↔ 25000000 / (4095 * f) < 513 / 2) ∧
    (0 ≤ prescaleOf f ↔ 1 / 2 ≤ 25000000 / (4095 * f))

/-- Reading the frequency back: freqOf is positive, strictly falling in the prescale, and 390625/256 for 3; the round
trip through prescaleOf is lossy, 1600 being an example (R114, R145). -/
def Obligations.FrequencyOfPrescale : Prop :=
  (∀ p : Byte, 0 < freqOf p ∧ freqOf p * ((p.toNat + 1) * 4096) = 25000000) ∧
  (∀ p q : Byte, p < q → freqOf q < freqOf p) ∧
  freqOf 3 = 390625 / 256 ∧ freqOf 0 = 390625 / 64 ∧ freqOf 255 = 390625 / 16384 ∧
  freqOf (BitVec.ofInt 8 (prescaleOf 1600)) ≠ 1600

/-- SETSTR's duty is the floor of fraction · 4095, and it is accepted exactly for fractions in [0, 4096/4095)
(R160, R165). -/
def Obligations.DutyIsTheFloor : Prop :=
  ∀ fr : Rat, ((dutyOf fr : Rat) ≤ fr * 4095 ∧ fr * 4095 < dutyOf fr + 1) ∧
    (validTick (dutyOf fr) = true ↔ 0 ≤ fr ∧ fr < 4096 / 4095)

/-- k steps forward from i lead to (i + k) mod 4, k steps backward to (i + 3k) mod 4 (R161, R192). -/
def Obligations.StepIndexAdvancesModFour : Prop :=
  ∀ (i : Fin 4) (k : Nat),
    ((fun j => nextIndex j .forward)^[k] i).val = (i.val + k) % 4 ∧
    ((fun j => nextIndex j .backward)^[k] i).val = (i.val + 3 * k) % 4

/-- A CoilState drives in2_1, in1_2, in1_1, in2_2 in that order, a 1 as (4096, 0) and a 0 as (0, 4096): sixteen
writes (R135, R163, R164). -/
def Obligations.CoilWritesFollowTheWiring : Prop :=
  ∀ (w : Wiring) (c : CoilState),
    let pin := fun (ch : Nat) (on : Bool) =>
      [RegWrite.mk (BitVec.ofNat 8 (6 + 4 * ch)) 0x00, RegWrite.mk (BitVec.ofNat 8 (6 + 4 * ch + 1)) (if on then 0x10 else 0x00),
       RegWrite.mk (BitVec.ofNat 8 (6 + 4 * ch + 2)) 0x00, RegWrite.mk (BitVec.ofNat 8 (6 + 4 * ch + 3)) (if on then 0x00 else 0x10)]
    coilWrites w c = pin w.in2_1 (c.getLsbD 0) ++ pin w.in1_2 (c.getLsbD 1) ++ pin w.in1_1 (c.getLsbD 2) ++
      pin w.in2_2 (c.getLsbD 3) ∧
    (coilWrites w c).length = 16

/-! ## Segments of each command -/

/-- INIT segment by segment (R120). It needs no `ready` and clears it first, in segment 1 (log 7). -/
def Obligations.InitSegments : Prop :=
  ∀ (s : State) (c : Ctx), s.ctx? = some c →
    (c.pos = 0 → exec .init s = .next ((s.setReady false).busWrite 0xFA 0x00)) ∧
    (c.answer ≠ .err →
      (c.pos = 1 → exec .init s = .next (s.busWrite 0xFB 0x00)) ∧
      (c.pos = 2 → exec .init s = .next (s.busWrite 0xFC 0x00)) ∧
      (c.pos = 3 → exec .init s = .next (s.busWrite 0xFD 0x00)) ∧
      (c.pos = 4 → exec .init s = .next (s.busWrite 0x01 0x04)) ∧
      (c.pos = 5 → exec .init s = .next (s.busWrite 0x00 0x01)) ∧
      (c.pos = 6 ∨ c.pos = 9 → exec .init s = .next (s.readClock.waitUntil (s.readClock.lastClock + 5)))) ∧
    (c.pos = 7 → exec .init s = .next ((s.resume c).busRead 0x00)) ∧
    (∀ m, c.answer = .okByte m → c.pos = 8 →
      exec .init s = .next ((s.modCtx fun c => { c with m := m }).busWrite 0x00 (m &&& 0xEF))) ∧
    (c.pos = 10 → exec .init s = .next ((s.resume c).busRead 0xFE)) ∧
    (∀ p, c.answer = .okByte p → c.pos = 11 →
      exec .init s = .next ((s.setReady true).respond .ok (.prescaleFreq p (25000000 / ((p.toNat + 1) * 4096)))))

/-- WRCH segment by segment (R125). The checks at acceptance run in segment 1 (log 7). -/
def Obligations.WrchSegments : Prop :=
  ∀ (ch : BitVec 8) (onTick offTick : BitVec 16) (s : State) (c : Ctx), s.ctx? = some c →
    (c.pos = 0 → s.ready = false → exec (.wrch ch onTick offTick) s = .next (s.respond .notReady .none)) ∧
    (c.pos = 0 → s.ready = true → ¬(ch.toNat < 16 ∧ onTick.toNat ≤ 4095 ∧ offTick.toNat ≤ 4095) →
      exec (.wrch ch onTick offTick) s = .next (s.respond .validation .none)) ∧
    (c.pos = 0 → s.ready = true → ch.toNat < 16 ∧ onTick.toNat ≤ 4095 ∧ offTick.toNat ≤ 4095 →
      exec (.wrch ch onTick offTick) s =
        .next (s.busWrite (BitVec.ofNat 8 (6 + 4 * ch.toNat)) (onTick.setWidth 8))) ∧
    (c.answer ≠ .err →
      (c.pos = 1 → exec (.wrch ch onTick offTick) s =
        .next (s.busWrite (BitVec.ofNat 8 (6 + 4 * ch.toNat + 1)) ((onTick >>> 8).setWidth 8))) ∧
      (c.pos = 2 → exec (.wrch ch onTick offTick) s =
        .next (s.busWrite (BitVec.ofNat 8 (6 + 4 * ch.toNat + 2)) (offTick.setWidth 8))) ∧
      (c.pos = 3 → exec (.wrch ch onTick offTick) s =
        .next (s.busWrite (BitVec.ofNat 8 (6 + 4 * ch.toNat + 3)) ((offTick >>> 8).setWidth 8))) ∧
      (c.pos = 4 → exec (.wrch ch onTick offTick) s = .next (s.respond .ok .none)))

/-- WRALL segment by segment (R130). The checks at acceptance run in segment 1 (log 7). -/
def Obligations.WrallSegments : Prop :=
  ∀ (onTick offTick : BitVec 16) (s : State) (c : Ctx), s.ctx? = some c →
    (c.pos = 0 → s.ready = false → exec (.wrall onTick offTick) s = .next (s.respond .notReady .none)) ∧
    (c.pos = 0 → s.ready = true → ¬(onTick.toNat ≤ 4095 ∧ offTick.toNat ≤ 4095) →
      exec (.wrall onTick offTick) s = .next (s.respond .validation .none)) ∧
    (c.pos = 0 → s.ready = true → onTick.toNat ≤ 4095 ∧ offTick.toNat ≤ 4095 →
      exec (.wrall onTick offTick) s = .next (s.busWrite 0xFA (onTick.setWidth 8))) ∧
    (c.answer ≠ .err →
      (c.pos = 1 → exec (.wrall onTick offTick) s = .next (s.busWrite 0xFB ((onTick >>> 8).setWidth 8))) ∧
      (c.pos = 2 → exec (.wrall onTick offTick) s = .next (s.busWrite 0xFC (offTick.setWidth 8))) ∧
      (c.pos = 3 → exec (.wrall onTick offTick) s = .next (s.busWrite 0xFD ((offTick >>> 8).setWidth 8))) ∧
      (c.pos = 4 → exec (.wrall onTick offTick) s = .next (s.respond .ok .none)))

/-- SETPIN segment by segment: On is (0x00, 0x10, 0x00, 0x00) and Off is (0x00, 0x00, 0x00, 0x10) (R135). The checks at
acceptance run in segment 1 (log 7). -/
def Obligations.SetpinSegments : Prop :=
  ∀ (ch : BitVec 8) (pin : PinState) (s : State) (c : Ctx), s.ctx? = some c →
    (c.pos = 0 → s.ready = false → exec (.setpin ch pin) s = .next (s.respond .notReady .none)) ∧
    (c.pos = 0 → s.ready = true → 16 ≤ ch.toNat →
      exec (.setpin ch pin) s = .next (s.respond .validation .none)) ∧
    (c.pos = 0 → s.ready = true → ch.toNat < 16 →
      exec (.setpin ch pin) s = .next (s.busWrite (BitVec.ofNat 8 (6 + 4 * ch.toNat)) 0x00)) ∧
    (c.answer ≠ .err →
      (c.pos = 1 → exec (.setpin ch pin) s =
        .next (s.busWrite (BitVec.ofNat 8 (6 + 4 * ch.toNat + 1)) (if pin = .on then 0x10 else 0x00))) ∧
      (c.pos = 2 → exec (.setpin ch pin) s = .next (s.busWrite (BitVec.ofNat 8 (6 + 4 * ch.toNat + 2)) 0x00)) ∧
      (c.pos = 3 → exec (.setpin ch pin) s =
        .next (s.busWrite (BitVec.ofNat 8 (6 + 4 * ch.toNat + 3)) (if pin = .on then 0x00 else 0x10))) ∧
      (c.pos = 4 → exec (.setpin ch pin) s = .next (s.respond .ok .none)))

/-- SETFREQ segment by segment (R140). Its two faults are in `SetfreqFaultsOutsideItsRange`. The readiness check runs in
segment 1 (log 7). -/
def Obligations.SetfreqSegments : Prop :=
  ∀ (num : BitVec 32) (den : BitVec 24) (s : State) (c : Ctx), s.ctx? = some c →
    (c.pos = 0 → s.ready = false → exec (.setfreq num den) s = .next (s.respond .notReady .none)) ∧
    (∀ p : Int, p = prescaleOf ((num.toNat : Rat) / (den.toNat : Rat)) → c.pos = 0 → s.ready = true → num ≠ 0 →
      0 ≤ p → p ≤ 255 →
      exec (.setfreq num den) s = .next ((s.modCtx fun c => { c with p8 := BitVec.ofInt 8 p }).busRead 0x00)) ∧
    (∀ old, c.answer = .okByte old → c.pos = 1 → exec (.setfreq num den) s =
      .next ((s.modCtx fun c => { c with old := old }).busWrite 0x00 ((old &&& 0x7F) ||| 0x10))) ∧
    (c.answer ≠ .err →
      (c.pos = 2 → exec (.setfreq num den) s = .next (s.busWrite 0xFE c.p8)) ∧
      (c.pos = 3 → exec (.setfreq num den) s = .next (s.busWrite 0x00 c.old)) ∧
      (c.pos = 4 → exec (.setfreq num den) s = .next (s.readClock.waitUntil (s.readClock.lastClock + 5))) ∧
      (c.pos = 6 → exec (.setfreq num den) s = .next (s.respond .ok (.prescale c.p8)))) ∧
    (c.pos = 5 → exec (.setfreq num den) s = .next ((s.resume c).busWrite 0x00 (c.old ||| 0x80)))

/-- GETFREQ and SWRESET segment by segment (R145, R150): SWRESET needs no `ready` and changes no shared element.
GETFREQ's check of it runs in segment 1 (log 7). -/
def Obligations.GetfreqAndSwresetSegments : Prop :=
  ∀ (s : State) (c : Ctx), s.ctx? = some c →
    (c.pos = 0 → s.ready = false → exec .getfreq s = .next (s.respond .notReady .none)) ∧
    (c.pos = 0 → s.ready = true → exec .getfreq s = .next (s.busRead 0xFE)) ∧
    (∀ p, c.answer = .okByte p → c.pos = 1 →
      exec .getfreq s = .next (s.respond .ok (.prescaleFreq p (25000000 / ((p.toNat + 1) * 4096))))) ∧
    (c.pos = 0 → exec .swreset s = .next (s.busSend (BitVec.ofNat 7 s.params.resetTarget) 0x00)) ∧
    (c.answer ≠ .err → c.pos = 1 → exec .swreset s = .next (s.respond .ok .none))

/-- SETSTR segment by segment: the duty goes to pwm1's group, then pwm2's, and `throttle` is written with the OK
response only (R165). The checks at acceptance run in segment 1 (log 7). -/
def Obligations.SetstrSegments : Prop :=
  ∀ (num : BitVec 32) (den : BitVec 24) (s : State) (c : Ctx), s.ctx? = some c →
    let fr : Rat := (num.toInt : Rat) / (den.toNat : Rat)
    (c.pos = 0 → s.ready = false → exec (.setstr num den) s = .next (s.respond .notReady .none)) ∧
    (c.pos = 0 → s.ready = true → ¬(0 ≤ dutyOf fr ∧ dutyOf fr ≤ 4095) →
      exec (.setstr num den) s = .next (s.respond .validation .none)) ∧
    (c.pos = 0 → s.ready = true → 0 ≤ dutyOf fr ∧ dutyOf fr ≤ 4095 → exec (.setstr num den) s =
      .next ((s.modCtx fun c => { c with duty := dutyOf fr }).busWrite
        (BitVec.ofNat 8 (6 + 4 * s.params.wiring.pwm1)) 0x00)) ∧
    (c.answer ≠ .err → ∀ k, 1 ≤ k → k ≤ 7 → c.pos = k → exec (.setstr num den) s =
      .next (s.busWrite
        (BitVec.ofNat 8 (6 + 4 * (if k < 4 then s.params.wiring.pwm1 else s.params.wiring.pwm2) + k % 4))
        (if k % 4 = 2 then BitVec.ofNat 8 (c.duty.toNat % 256) else if k % 4 = 3 then BitVec.ofNat 8 (c.duty.toNat / 256)
         else 0x00))) ∧
    (c.answer ≠ .err → c.pos = 8 → exec (.setstr num den) s = .next ((s.setThrottle fr).respond .ok .none))

/-- COILS and IDLE segment by segment: `pulsing` is 1 from segment 1 and 0 with the response (R164, R170, R175).
The readiness check runs in segment 1 (log 7). -/
def Obligations.CoilsAndIdleSegments : Prop :=
  ∀ (i : Instr) (pattern : CoilState) (s : State) (c : Ctx), s.ctx? = some c →
    (i = .coils pattern ∨ (i = .idle ∧ pattern = 0)) →
    (c.pos = 0 → s.ready = false → exec i s = .next (s.respond .notReady .none)) ∧
    (∀ w, (coilWrites s.params.wiring pattern)[0]? = some w → c.pos = 0 → s.ready = true →
      exec i s = .next ((s.setPulsing true).busWrite w.reg w.val)) ∧
    (∀ k w, (coilWrites s.params.wiring pattern)[k]? = some w → 1 ≤ k → k ≤ 15 → c.pos = k → c.answer ≠ .err →
      exec i s = .next (s.busWrite w.reg w.val)) ∧
    (c.pos = 16 → c.answer ≠ .err → exec i s = .next ((s.setPulsing false).respond .ok .none))

/-- Segment 1 of STEP (R180, R190): readiness; contention; count 0, which issues nothing and reads no clock; and
otherwise the first iteration up to its first write: the index advanced, `pulsing` set, the loop begun. The checks at
acceptance run in segment 1 (log 7). -/
def Obligations.StepAcceptance : Prop :=
  ∀ (dir : Dir) (count : BitVec 32) (s : State) (c : Ctx), s.ctx? = some c → c.pos = 0 →
    (s.ready = false → exec (.step dir count) s = .next (s.respond .notReady .none)) ∧
    (s.ready = true → (s.seqState = .stepping ∨ s.pulsing = true) →
      exec (.step dir count) s = .next (s.respond .contention .none)) ∧
    (s.ready = true → s.seqState = .idle → s.pulsing = false → count = 0 →
      exec (.step dir count) s = .next ((s.setCancel false).respond .ok (.stepped 0 dir 0 false))) ∧
    (s.ready = true → s.seqState = .idle → s.pulsing = false → count ≠ 0 →
      ∃ t c' w, exec (.step dir count) s = .next t ∧
        (coilWrites s.params.wiring s.params.coilTable[nextIndex s.stepIndex dir])[0]? = some w ∧
        t.stepIndex = nextIndex s.stepIndex dir ∧ t.seqState = .stepping ∧ t.cancel = false ∧ t.pulsing = true ∧
        t.lastClock = s.readClock.lastClock ∧
        t.trace = s.trace ++ [.clock s.cur t.lastClock,
          .write s.cur s.params.dev w.reg w.val s.env.dropClock.nextAck] ∧
        t.ctx? = some c' ∧ c'.pos = 1 ∧ c'.dir = dir ∧ c'.count = count ∧ c'.i = 0 ∧
        c'.tS = t.lastClock ∧ c'.tFirst = some t.lastClock ∧ c'.answer = .ofAck s.env.dropClock.nextAck ∧
        t.ready = s.ready ∧ t.throttle = s.throttle ∧ t.faulted = s.faulted)

/-- The writes of a STEP iteration after its first, and the measurement after the last: wait until t_s + interval when
less has elapsed (R180 steps 3 and 4). In R180 the pattern is fixed when UpdateCoils is called; here each write takes it
from the table at the current step index, which only a running loop writes (log 14). -/
def Obligations.StepIterationSegments : Prop :=
  ∀ (dir : Dir) (count : BitVec 32) (s : State) (c : Ctx), s.ctx? = some c → c.answer ≠ .err →
    (∀ k w, (coilWrites s.params.wiring s.params.coilTable[s.stepIndex])[k]? = some w → 1 ≤ k → k ≤ 15 → c.pos = k →
      exec (.step dir count) s = .next (s.busWrite w.reg w.val)) ∧
    (c.pos = 16 → s.readClock.lastClock - c.tS < 1000 / s.params.pulsesPerSecond →
      exec (.step dir count) s =
        .next ((s.setPulsing false).readClock.waitUntil (c.tS + 1000 / s.params.pulsesPerSecond)))

/-- The end of a STEP iteration at time u, after its wait or at once when the interval has elapsed (R180, R181): with
`cancel` set the loop ends with cancelled = 1; with all iterations done it ends with steps = count; either way the
response frees the port (R98), and `pulsing` stays as it was after a wait, where another port's coil update may hold it 1
(R253), and is 0 otherwise (R164); if neither, the next iteration advances the index and issues its first write in the
same segment. -/
def Obligations.StepIterationEnds : Prop :=
  ∀ (dir : Dir) (count : BitVec 32) (s : State) (c : Ctx) (u t0 : Rat), s.ctx? = some c → c.tFirst = some t0 →
    ((c.pos = 17 ∧ u = (s.resume c).lastClock) ∨
      (c.pos = 16 ∧ c.answer ≠ .err ∧ u = s.readClock.lastClock ∧
        1000 / s.params.pulsesPerSecond ≤ u - c.tS)) →
    (c.i + 1 < c.count.toNat → s.cancel = true →
      ∃ t, exec (.step dir count) s = .next t ∧
        t.seqState = .idle ∧ t.cancel = false ∧ t.stepIndex = s.stepIndex ∧
        t.trace = s.trace ++ [.clock s.cur u, .respond s.cur
          ⟨.ok, .stepped (BitVec.ofNat 32 (c.i + 1)) c.dir (u - t0) true⟩] ∧
        t.ports = s.ports.modify s.cur (fun _ =>
          ⟨false, none, some ⟨.ok, .stepped (BitVec.ofNat 32 (c.i + 1)) c.dir (u - t0) true⟩⟩) ∧
        t.pulsing = (if c.pos = 17 then s.pulsing else false)) ∧
    (c.i + 1 = c.count.toNat →
      ∃ t, exec (.step dir count) s = .next t ∧
        t.seqState = .idle ∧ t.cancel = false ∧ t.stepIndex = s.stepIndex ∧
        t.trace = s.trace ++ [.clock s.cur u, .respond s.cur ⟨.ok, .stepped c.count c.dir (u - t0) false⟩] ∧
        t.ports = s.ports.modify s.cur (fun _ =>
          ⟨false, none, some ⟨.ok, .stepped c.count c.dir (u - t0) false⟩⟩) ∧
        t.pulsing = (if c.pos = 17 then s.pulsing else false)) ∧
    (c.i + 1 < c.count.toNat → s.cancel = false →
      ∃ t c' w, exec (.step dir count) s = .next t ∧
        (coilWrites s.params.wiring s.params.coilTable[nextIndex s.stepIndex c.dir])[0]? = some w ∧
        t.seqState = s.seqState ∧ t.cancel = false ∧ t.pulsing = true ∧ t.stepIndex = nextIndex s.stepIndex c.dir ∧
        u ≤ t.lastClock ∧
        t.trace = s.trace ++ [.clock s.cur u, .clock s.cur t.lastClock,
          .write s.cur s.params.dev w.reg w.val s.env.dropClock.dropClock.nextAck] ∧
        t.ctx? = some c' ∧ c'.pos = 1 ∧ c'.i = c.i + 1 ∧ c'.tEnd = u ∧ c'.tS = t.lastClock ∧ c'.tFirst = some t0)

/-- STOP: `cancel <- 1` only while Stepping; one segment, no transaction, OK (R185). -/
def Obligations.StopSetsCancelOnlyWhileStepping : Prop :=
  ∀ (s : State) (c : Ctx), s.ctx? = some c →
    exec .stop s = .next { s with
      cancel := if s.seqState = .stepping then true else s.cancel
      trace := s.trace ++ [.respond s.cur ⟨.ok, .none⟩]
      ports := s.ports.modify s.cur fun _ => ⟨false, none, some ⟨.ok, .none⟩⟩ }

/-! ## Errors and faults -/

/-- A gated command whose segment 1 finds `ready` = 0 ends with NOT_READY and changes nothing else; INIT, SWRESET and
STOP never raise it (R202). R202 says "at acceptance"; the model makes the check in segment 1, a step of its own (log
7). -/
def Obligations.GatedCommandsNeedReady : Prop :=
  (∀ (i : Instr) (s : State) (c : Ctx), s.ctx? = some c → c.pos = 0 → s.ready = false → i.needsReady = true →
    exec i s = .next { s with
      trace := s.trace ++ [.respond s.cur ⟨.notReady, .none⟩]
      ports := s.ports.modify s.cur fun _ => ⟨false, none, some ⟨.notReady, .none⟩⟩ }) ∧
  (∀ (i : Instr) (s t : State) (p : Nat) (d : RespData), i.needsReady = false → exec i s = .next t →
    Event.respond p ⟨.notReady, d⟩ ∈ t.trace → Event.respond p ⟨.notReady, d⟩ ∈ s.trace)

/-- After segment 1 no command depends on `ready`: a command in flight continues as it would whatever `ready` becomes
(R118, R252). INIT, SWRESET and STOP depend on it at no position: INIT writes it, or leaves it as it was. The check that
R118 makes at acceptance is made in segment 1, so a gated command at position 0 does read it (log 7). -/
def Obligations.ReadyIsCheckedOnlyAtAcceptance : Prop :=
  (∀ (i : Instr) (s t : State) (c : Ctx) (b : Bool), s.ctx? = some c → c.pos ≠ 0 → i ≠ .init →
    exec i s = .next t → exec i (s.setReady b) = .next (t.setReady b)) ∧
  (∀ (i : Instr) (s t : State) (b : Bool), i.needsReady = false → exec i s = .next t →
    exec i (s.setReady b) = .next t ∨ exec i (s.setReady b) = .next (t.setReady b))

/-- STEP raises CONTENTION when a loop is running or a coil update is in flight, with no transaction and no state
change (R203). R203 says "at acceptance"; the model makes the check in segment 1, a step of its own (log 7). -/
def Obligations.StepContentionChangesNothing : Prop :=
  ∀ (dir : Dir) (count : BitVec 32) (s : State) (c : Ctx), s.ctx? = some c → c.pos = 0 → s.ready = true →
    (s.seqState = .stepping ∨ s.pulsing = true) →
    exec (.step dir count) s = .next { s with
      trace := s.trace ++ [.respond s.cur ⟨.contention, .none⟩]
      ports := s.ports.modify s.cur fun _ => ⟨false, none, some ⟨.contention, .none⟩⟩ }

/-- The commands that raise VALIDATION, and for which operands: with no transaction and no state change (R204). R204
says "at acceptance"; the model makes the check in segment 1, after the readiness check there (log 7). -/
def Obligations.ValidationErrorsChangeNothing : Prop :=
  ∀ (i : Instr) (s : State) (c : Ctx), s.ctx? = some c → c.pos = 0 → s.ready = true →
    ((∃ ch onTick offTick, i = .wrch ch onTick offTick ∧
        (16 ≤ ch.toNat ∨ 4095 < onTick.toNat ∨ 4095 < offTick.toNat)) ∨
     (∃ onTick offTick, i = .wrall onTick offTick ∧ (4095 < onTick.toNat ∨ 4095 < offTick.toNat)) ∨
     (∃ ch pin, i = .setpin ch pin ∧ 16 ≤ ch.toNat) ∨
     (∃ num den, i = .setstr num den ∧
        (dutyOf (strOperand num den) < 0 ∨ 4095 < dutyOf (strOperand num den)))) →
    exec i s = .next { s with
      trace := s.trace ++ [.respond s.cur ⟨.validation, .none⟩]
      ports := s.ports.modify s.cur fun _ => ⟨false, none, some ⟨.validation, .none⟩⟩ }

/-- SETFREQ's faults (R206): f = 0, or a prescale outside [0, 255]; before any transaction, with no response, `busy`
left as it was and no further segment, which the model says by emptying the port's context (log 9); a faulted state is
not final, a mark is never cleared, and a port whose command faulted, busy with an empty context (log 9), stays so for
ever. -/
def Obligations.SetfreqFaultsOutsideItsRange : Prop :=
  (∀ (num : BitVec 32) (den : BitVec 24) (s : State) (c : Ctx) (reason : FaultReason),
    s.ctx? = some c → c.pos = 0 → s.ready = true → den ≠ 0 →
    ((num = 0 ∧ reason = .freqNonpositive) ∨
     (num ≠ 0 ∧ reason = .prescaleRange ∧
       ¬(0 ≤ prescaleOf ((num.toNat : Rat) / (den.toNat : Rat)) ∧
         prescaleOf ((num.toNat : Rat) / (den.toNat : Rat)) ≤ 255))) →
    ∃ t, exec (.setfreq num den) s = .next t ∧
      t = { s with
        faulted := s.faulted.add reason
        trace := s.trace ++ [.fault s.cur reason]
        ports := s.ports.modify s.cur fun q => { q with ctx := none } } ∧
      t.faulted.has reason = true ∧ t.enabled s.cur = false ∧ t.final = false) ∧
  (∀ (s t : State) (reason : FaultReason), step s = .next t → s.faulted.has reason = true →
    t.faulted.has reason = true ∧ t.final = false) ∧
  (∀ (s t : State) (p : Nat) (q : Port), s.ports[p]? = some q → q.busy = true → q.ctx = none → step s = .next t →
    t.ports[p]? = some q)

/-- A transaction answered `err` ends its command in the next segment: PARTIAL_WRITE if a write or send of the command
was answered `ok` before, else TRANSPORT; no further transaction; a coil update clears `pulsing`, a step loop ends and
reports the iterations completed, and the step index stays (R164, R182, R205, R210, R211). -/
def Obligations.TransportFailureEndsTheCommand : Prop :=
  ∀ (i : Instr) (s : State) (c : Ctx), s.ctx? = some c → i.afterTransaction c.pos = true → c.answer = .err →
    ∃ t r, exec i s = .next t ∧
      r = Response.mk (if c.wrote then .partialWrite else .transport)
        (if i.isStep then .failedAfter (BitVec.ofNat 32 c.i) else .none) ∧
      t = { s with
        trace := s.trace ++ [.respond s.cur r]
        ports := s.ports.modify s.cur fun _ => ⟨false, none, some r⟩
        pulsing := if i.updatesCoils then false else s.pulsing
        seqState := if i.isStep then .idle else s.seqState
        cancel := if i.isStep then false else s.cancel }

/-- The writers of the shared elements (R22, R24 to R28, R30, R35, R210): a segment of any command leaves each element
unchanged unless the element is one the command writes; parameters, `refused` and the other ports are never touched; the
trace only grows; the clock does not go back; a fault mark is not cleared. -/
def Obligations.SegmentsKeepTheirFrame : Prop :=
  ∀ (i : Instr) (s t : State), exec i s = .next t →
    t.params = s.params ∧ t.refused = s.refused ∧ t.cur = s.cur ∧ t.env.turns = s.env.turns ∧
    (i.isInit = false → t.ready = s.ready) ∧
    (i.isStep = false → t.stepIndex = s.stepIndex ∧ t.seqState = s.seqState) ∧
    (i.isSetstr = false → t.throttle = s.throttle) ∧
    (i.updatesCoils = false → t.pulsing = s.pulsing) ∧
    (i.isStep = false → i.isStop = false → t.cancel = s.cancel) ∧
    (i.isSetfreq = false → t.faulted = s.faulted) ∧
    (i.isInit = false → i.isSetfreq = false → i.isStep = false → t.lastClock = s.lastClock) ∧
    (∀ r, s.faulted.has r = true → t.faulted.has r = true) ∧
    s.lastClock ≤ t.lastClock ∧ s.trace <+: t.trace ∧
    t.ports.length = s.ports.length ∧ (∀ p, p ≠ s.cur → t.ports[p]? = s.ports[p]?)

/-! ## Whole commands, run with no other port between their segments -/

/-- WRCH, WRALL and SETPIN, started while ready with valid operands and every write answered `ok`, issue their four
writes in order and end OK; nothing else changes (R111, R125, R130, R135). -/
def Obligations.GroupCommandsWriteFourBytes : Prop :=
  ∀ (i : Instr) (base : Byte) (onTick offTick : Nat) (s : State) (c : Ctx) (rest : List Ack),
    s.ctx? = some c → c.pos = 0 → s.ready = true → i.operandsValid = true →
    s.env.acks = List.replicate 4 .ok ++ rest →
    ((∃ ch on off, i = .wrch ch on off ∧ base = BitVec.ofNat 8 (6 + 4 * ch.toNat) ∧
        onTick = on.toNat ∧ offTick = off.toNat) ∨
     (∃ on off, i = .wrall on off ∧ base = 0xFA ∧ onTick = on.toNat ∧ offTick = off.toNat) ∨
     (∃ ch, i = .setpin ch .on ∧ base = BitVec.ofNat 8 (6 + 4 * ch.toNat) ∧ onTick = 4096 ∧ offTick = 0) ∨
     (∃ ch, i = .setpin ch .off ∧ base = BitVec.ofNat 8 (6 + 4 * ch.toNat) ∧ onTick = 0 ∧ offTick = 4096)) →
    runSegments i 5 s = .next { s with
      env := { s.env with acks := rest }
      trace := s.trace ++
        [.write s.cur s.params.dev base (BitVec.ofNat 8 (onTick % 256)) .ok,
         .write s.cur s.params.dev (base + 1) (BitVec.ofNat 8 (onTick / 256)) .ok,
         .write s.cur s.params.dev (base + 2) (BitVec.ofNat 8 (offTick % 256)) .ok,
         .write s.cur s.params.dev (base + 3) (BitVec.ofNat 8 (offTick / 256)) .ok,
         .respond s.cur ⟨.ok, .none⟩]
      ports := s.ports.modify s.cur fun _ => ⟨false, none, some ⟨.ok, .none⟩⟩ }

/-- INIT with every transaction answered `ok` and admissible clock readings t1 to t4: exactly 7 writes, 2 reads and 2
waits in the order of R120, MODE1 written back with SLEEP cleared; `ready` is 0 after every segment but the last, which
sets it with the OK response. -/
def Obligations.InitRunsTheHandshake : Prop :=
  ∀ (s : State) (c : Ctx) (m p : Byte) (t1 t2 t3 t4 : Rat) (acks : List Ack) (reads : List ReadAnswer)
    (clocks : List Rat), s.ctx? = some c → c.pos = 0 →
    s.env.acks = List.replicate 7 .ok ++ acks → s.env.reads = .ok m :: .ok p :: reads →
    s.env.clocks = t1 :: t2 :: t3 :: t4 :: clocks →
    0 ≤ s.lastClock → s.lastClock ≤ t1 → t1 + 5 ≤ t2 → t2 ≤ t3 → t3 + 5 ≤ t4 →
    (∀ k, 1 ≤ k → k < 12 → ∃ u, runSegments .init k s = .next u ∧ u.ready = false ∧ u.enabled s.cur = true) ∧
    runSegments .init 12 s = .next { s with
      ready := true
      lastClock := t4
      env := { s.env with acks := acks, reads := reads, clocks := clocks }
      trace := s.trace ++
        [.write s.cur s.params.dev 0xFA 0x00 .ok, .write s.cur s.params.dev 0xFB 0x00 .ok,
         .write s.cur s.params.dev 0xFC 0x00 .ok, .write s.cur s.params.dev 0xFD 0x00 .ok,
         .write s.cur s.params.dev 0x01 0x04 .ok, .write s.cur s.params.dev 0x00 0x01 .ok,
         .clock s.cur t1, .wait s.cur (t1 + 5), .clock s.cur t2,
         .read s.cur s.params.dev 0x00 (.ok m), .write s.cur s.params.dev 0x00 (m &&& 0xEF) .ok,
         .clock s.cur t3, .wait s.cur (t3 + 5), .clock s.cur t4,
         .read s.cur s.params.dev 0xFE (.ok p),
         .respond s.cur ⟨.ok, .prescaleFreq p (freqOf p)⟩]
      ports := s.ports.modify s.cur fun _ => ⟨false, none, some ⟨.ok, .prescaleFreq p (freqOf p)⟩⟩ }

/-- SETFREQ with every transaction answered `ok`: read MODE1, sleep byte, prescale, restore, wait at least 5 ms,
restart byte, and the prescale written is the response (R140). -/
def Obligations.SetfreqRunsTheSequence : Prop :=
  ∀ (num : BitVec 32) (den : BitVec 24) (p : Nat) (s : State) (c : Ctx) (old : Byte) (t1 t2 : Rat)
    (acks : List Ack) (reads : List ReadAnswer) (clocks : List Rat),
    s.ctx? = some c → c.pos = 0 → s.ready = true → num ≠ 0 →
    prescaleOf ((num.toNat : Rat) / (den.toNat : Rat)) = p → p ≤ 255 →
    s.env.acks = List.replicate 4 .ok ++ acks → s.env.reads = .ok old :: reads →
    s.env.clocks = t1 :: t2 :: clocks → 0 ≤ s.lastClock → s.lastClock ≤ t1 → t1 + 5 ≤ t2 →
    runSegments (.setfreq num den) 7 s = .next { s with
      lastClock := t2
      env := { s.env with acks := acks, reads := reads, clocks := clocks }
      trace := s.trace ++
        [.read s.cur s.params.dev 0x00 (.ok old),
         .write s.cur s.params.dev 0x00 ((old &&& 0x7F) ||| 0x10) .ok,
         .write s.cur s.params.dev 0xFE (BitVec.ofNat 8 p) .ok,
         .write s.cur s.params.dev 0x00 old .ok,
         .clock s.cur t1, .wait s.cur (t1 + 5), .clock s.cur t2,
         .write s.cur s.params.dev 0x00 (old ||| 0x80) .ok,
         .respond s.cur ⟨.ok, .prescale (BitVec.ofNat 8 p)⟩]
      ports := s.ports.modify s.cur fun _ => ⟨false, none, some ⟨.ok, .prescale (BitVec.ofNat 8 p)⟩⟩ }

/-- SETSTR with a duty in range and every write answered `ok`: (0, duty) to pwm1's group and then to pwm2's, and the
fraction as given becomes `throttle` (R165). -/
def Obligations.SetstrWritesBothWindings : Prop :=
  ∀ (num : BitVec 32) (den : BitVec 24) (d : Nat) (s : State) (c : Ctx) (acks : List Ack),
    s.ctx? = some c → c.pos = 0 → s.ready = true → dutyOf ((num.toInt : Rat) / (den.toNat : Rat)) = d → d ≤ 4095 →
    s.env.acks = List.replicate 8 .ok ++ acks →
    runSegments (.setstr num den) 9 s = .next { s with
      throttle := (num.toInt : Rat) / (den.toNat : Rat)
      env := { s.env with acks := acks }
      trace := s.trace ++
        writeEvents s.cur s.params.dev
          (groupWrites (chanBase s.params.wiring.pwm1) 0 d ++ groupWrites (chanBase s.params.wiring.pwm2) 0 d) ++
        [.respond s.cur ⟨.ok, .none⟩]
      ports := s.ports.modify s.cur fun _ => ⟨false, none, some ⟨.ok, .none⟩⟩ }

/-- COILS and IDLE with every write answered `ok`: sixteen writes in the fixed order, `pulsing` = 0 at the end
whatever it was, and nothing else changes (R164, R170, R175). -/
def Obligations.CoilUpdatesWriteSixteenBytes : Prop :=
  ∀ (i : Instr) (pattern : CoilState) (s : State) (c : Ctx) (acks : List Ack),
    (i = .coils pattern ∨ (i = .idle ∧ pattern = 0)) →
    s.ctx? = some c → c.pos = 0 → s.ready = true → s.env.acks = List.replicate 16 .ok ++ acks →
    runSegments i 17 s = .next { s with
      pulsing := false
      env := { s.env with acks := acks }
      trace := s.trace ++ writeEvents s.cur s.params.dev (coilWrites s.params.wiring pattern) ++
        [.respond s.cur ⟨.ok, .none⟩]
      ports := s.ports.modify s.cur fun _ => ⟨false, none, some ⟨.ok, .none⟩⟩ }

/-- A coil update whose k-th write is answered `err`: the k writes before it stand, the failing one is the last, the
status is TRANSPORT for k = 0 and PARTIAL_WRITE otherwise, and `pulsing` = 0 (R164, R205, R211). -/
def Obligations.FailedCoilUpdateIsPrecise : Prop :=
  ∀ (i : Instr) (pattern : CoilState) (k : Nat) (w : RegWrite) (s : State) (c : Ctx) (acks : List Ack),
    (i = .coils pattern ∨ (i = .idle ∧ pattern = 0)) →
    s.ctx? = some c → c.pos = 0 → c.wrote = false → s.ready = true →
    (coilWrites s.params.wiring pattern)[k]? = some w →
    s.env.acks = List.replicate k .ok ++ .err :: acks →
    runSegments i (k + 2) s = .next { s with
      pulsing := false
      env := { s.env with acks := acks }
      trace := s.trace ++ writeEvents s.cur s.params.dev ((coilWrites s.params.wiring pattern).take k) ++
        [.write s.cur s.params.dev w.reg w.val .err,
         .respond s.cur ⟨if k = 0 then .transport else .partialWrite, .none⟩]
      ports := s.ports.modify s.cur fun _ => ⟨false, none, some ⟨if k = 0 then .transport else .partialWrite, .none⟩⟩ }

/-- A STEP of n iterations run alone with every write answered `ok` completes: n coil updates of sixteen writes, at the
indices the direction leads through, then OK with steps = n, cancelled = 0 and a duration of at least n intervals; the
sequencer is Idle again (R180, R181, R188, R192). -/
def Obligations.StepLoopCompletes : Prop :=
  ∀ (dir : Dir) (n : BitVec 32) (s : State) (c : Ctx),
    s.ctx? = some c → c.pos = 0 → s.ready = true → s.seqState = .idle → s.pulsing = false →
    (∀ a ∈ s.env.acks, a = Ack.ok) → 16 * n.toNat ≤ s.env.acks.length →
    ∃ k t duration, runSegments (.step dir n) k s = .next t ∧
      t.stepIndex = (fun j => nextIndex j dir)^[n.toNat] s.stepIndex ∧
      t.seqState = .idle ∧ t.cancel = false ∧ t.pulsing = false ∧
      t.ready = s.ready ∧ t.throttle = s.throttle ∧ t.faulted = s.faulted ∧
      t.busTrace = s.busTrace ++ (List.range n.toNat).flatMap (fun j =>
        writeEvents s.cur s.params.dev (coilWrites s.params.wiring
          s.params.coilTable[(fun k => nextIndex k dir)^[j + 1] s.stepIndex])) ∧
      t.ports = s.ports.modify s.cur (fun _ => ⟨false, none, some ⟨.ok, .stepped n dir duration false⟩⟩) ∧
      n.toNat * (1000 / s.params.pulsesPerSecond) ≤ duration

/-- After an IDLE that ran alone with every write answered `ok`, all four coil pins are driven Off, whatever the trace
said of the chip before (R175, R222; the view of the chip is log 17, and that it shows a byte in effect from its write
on, asleep or not, is log 25). -/
def Obligations.IdleDrivesAllCoilPinsOff : Prop :=
  ∀ (s : State) (c : Ctx) (acks : List Ack), s.params.ok = true →
    s.ctx? = some c → c.pos = 0 → s.ready = true → s.env.acks = List.replicate 16 .ok ++ acks →
    ∃ t, runSegments .idle 17 s = .next t ∧ t.pulsing = false ∧
      ∀ ch ∈ [s.params.wiring.in2_1, s.params.wiring.in1_2, s.params.wiring.in1_1, s.params.wiring.in2_2],
        t.chip.channel ch = .alwaysOff

/-! ## Reset, configuration, invariants -/

/-- Block reset sets every element to its reset value, for any configuration and any draw of `lastClock`, and issues no
transaction (R42, R240). -/
def Obligations.ResetValues : Prop :=
  ∀ (p : Params) (clock : Rat),
    let s := State.resetWith p clock
    s.ready = false ∧ s.stepIndex = 0 ∧ s.throttle = 1 ∧ s.pulsing = false ∧ s.seqState = .idle ∧ s.cancel = false ∧
    s.ports.length = p.numPorts ∧
    (∀ q ∈ s.ports, q.busy = false ∧ q.ctx = none ∧ q.resp = none) ∧
    s.lastClock = clock ∧ s.faulted = ⟨false, false⟩ ∧ (s.refused = true ↔ p.ok = false) ∧ s.trace = [] ∧
    s.params = p

/-- The block is refused at instantiation exactly when a condition of R207 holds, and a refused block accepts no
command: its ports stay idle (R207). That RESET_TARGET_ADDR may be 0 rests on GENERAL_CALL_ADDR = 0x00, which R8 itself
takes from general knowledge (log 6). -/
def Obligations.BadConfigurationsAreRefused : Prop :=
  (∀ (p : Params) (clock : Rat), (State.resetWith p clock).refused = true ↔
    ((∃ ch ∈ p.wiring.channels, 16 ≤ ch) ∨ ¬ p.wiring.channels.Nodup ∨
     (∃ k : Fin 4, p.coilTable[k] ∉ [0b0001#4, 0b0010#4, 0b0100#4, 0b1000#4]) ∨
     p.pulsesPerSecond ≤ 0 ∨ p.numPorts < 1 ∨ 0x7F < p.deviceAddr ∨
     (p.resetTarget ≠ 0 ∧ p.resetTarget ≠ p.deviceAddr))) ∧
  (∀ (s t : State), s.refused = true → (∀ q ∈ s.ports, q.busy = false ∧ q.ctx = none) → step s = .next t →
    t.refused = true ∧ t.trace = s.trace ∧ (∀ q ∈ t.ports, q.busy = false ∧ q.ctx = none))

/-- The invariants of the block hold after reset, for every configuration and every non-negative clock draw. -/
def Obligations.InvariantHoldsAtReset : Prop :=
  (∀ (p : Params) (clock : Rat), 0 ≤ clock → (State.resetWith p clock).Inv ∧ (State.resetWith p clock).ModeInv) ∧
  State.reset.Inv ∧ State.reset.ModeInv

/-- Every step keeps the invariant: NUM_PORTS ports, `refused` as configured, a clock that is not negative, contexts
that hold their word's own command with operands that passed its checks, and a trace whose every transaction goes to a
register of R54 at DEVICE_ADDR (or is the software-reset byte), with MODE2 written by INIT's value only (R34, R37, R38,
R54, R62, R117, R207, R227); and, in a state with that invariant, the discipline of MODE1: every write of it outside
INIT's step 3 is the identity or an R116 function of a byte that the same command read from MODE1 (R117). -/
def Obligations.StepKeepsInvariant : Prop :=
  (∀ (s t : State), s.Inv → step s = .next t → t.Inv) ∧
  (∀ (s t : State), s.Inv → s.ModeInv → step s = .next t → t.ModeInv)

/-- At most one step loop exists, `seqState` says whether it does, and every step of a state with the block's invariant
keeps both, from reset on (R27, R188, R190). -/
def Obligations.StepLoopsAreExclusive : Prop :=
  (∀ (p : Params) (clock : Rat), (State.resetWith p clock).LoopInv) ∧
  (∀ (s t : State), s.Inv → s.LoopInv → step s = .next t → t.LoopInv)

/-- Every STEP response reports a duration of at least steps × interval: every step of a state with the block's
invariant keeps that, whatever the interleaving and the clock's draws, from reset on (R181, R262). -/
def Obligations.StepDurationsAreLowerBounded : Prop :=
  (∀ (p : Params) (clock : Rat), (State.resetWith p clock).DurationInv) ∧
  (∀ (s t : State), s.Inv → s.DurationInv → step s = .next t → t.DurationInv)

/-- Two SETFREQs that overlap on two ports, in the interleaving of 95_test_vectors.md program P5, given as a queue of
turns (log 3): from a ready block whose two ports are idle, the block accepts both words before either command runs, makes
P5's ten transactions in their order, both commands answer OK, every answer is one of the register-file device of R74 that
starts with MODE1 = 0x01, and the last bytes written are the stale SLEEP bit in MODE1 and the second prescale (R61,
R251). -/
def Obligations.OverlappingSetfreqRestoresAStaleByte : Prop :=
  ∃ s t : State, s.ready = true ∧ s.refused = false ∧ s.params = exampleParams ∧ s.trace = [] ∧
    s.ports = [Port.reset, Port.reset] ∧
    s.env.turns = [.offer 0 0x0500000640000001, .offer 1 0x0500000032000001,
      .run 0, .run 0, .run 1, .run 1, .run 0, .run 0, .run 1, .run 1, .run 0, .run 0, .run 1, .run 1, .run 0, .run 1] ∧
    Host.Core.run Sys2Proof.core 16 s = .next t ∧
    t.trace.take 2 = [.accept 0 0x0500000640000001, .accept 1 0x0500000032000001] ∧
    t.busTrace =
      [.read 0 0x40 0x00 (.ok 0x01), .write 0 0x40 0x00 0x11 .ok, .read 1 0x40 0x00 (.ok 0x11),
       .write 1 0x40 0x00 0x11 .ok, .write 0 0x40 0xFE 0x03 .ok, .write 0 0x40 0x00 0x01 .ok,
       .write 1 0x40 0xFE 0x79 .ok, .write 1 0x40 0x00 0x11 .ok, .write 0 0x40 0x00 0x81 .ok,
       .write 1 0x40 0x00 0x91 .ok] ∧
    registerFileTrace [(0, 0x01)] t.trace = true ∧
    t.ports.map Port.resp = [some ⟨.ok, .prescale 3⟩, some ⟨.ok, .prescale 121⟩] ∧
    registerFile [(0, 0x01)] t.trace = [(0, 0x91), (0xFE, 0x79)]

/-! ## What a host sees; what the trace says of the chip -/

/-- The status port shows each element that R36 names. A host reads no response of a busy port and the posted one of an
idle port (R32); a response is readable as soon as it is posted, and stays so, in a state with the block's invariant,
until a word is offered on its port. The seven status codes (R99). -/
def Obligations.StatusPortAndResponses : Prop :=
  (∀ (s : State), s.status.ready = s.ready ∧ s.status.seqState = s.seqState ∧ s.status.pulsing = s.pulsing ∧
    s.status.cancel = s.cancel ∧ s.status.stepIndex = s.stepIndex ∧ s.status.throttle = s.throttle ∧
    (∀ p : Nat, s.status.busy[p]? = s.ports[p]?.map Port.busy) ∧
    s.status.faulted = s.faulted ∧ s.status.refused = s.refused) ∧
  (∀ (s : State) (p : Nat) (q : Port), s.ports[p]? = some q →
    (q.busy = true → s.readResponse p = none) ∧ (q.busy = false → s.readResponse p = q.resp)) ∧
  (∀ (s : State) (status : Status) (data : RespData), s.cur < s.ports.length →
    (s.respond status data).readResponse s.cur = some ⟨status, data⟩) ∧
  (∀ (s t : State) (p : Nat) (r : Response), s.Inv → s.readResponse p = some r →
    (∀ w rest, s.env.turns ≠ .offer p w :: rest) → step s = .next t → t.readResponse p = some r) ∧
  Status.ok.code = 0x00 ∧ Status.validation.code = 0x01 ∧ Status.transport.code = 0x02 ∧
  Status.partialWrite.code = 0x03 ∧ Status.contention.code = 0x04 ∧ Status.notReady.code = 0x05 ∧
  Status.illegalCommand.code = 0x06

/-- A broadcast is in effect on every channel until a per-channel write, and (0, 0) written there forces all outputs low
(R223): what WRALL and WRCH, run alone with every write answered `ok`, do to the sixteen channels, whatever the trace
said of the chip before (the view of the chip is log 17, and that it shows a byte in effect from its write on, asleep or
not, is log 25). -/
def Obligations.BroadcastsOverrideUntilAChannelIsWritten : Prop :=
  (∀ (onTick offTick : BitVec 16) (s : State) (c : Ctx) (acks : List Ack),
    s.ctx? = some c → c.pos = 0 → s.ready = true → onTick.toNat ≤ 4095 → offTick.toNat ≤ 4095 →
    s.env.acks = List.replicate 4 .ok ++ acks →
    ∃ t, runSegments (.wrall onTick offTick) 5 s = .next t ∧ ∀ n < 16, t.chip.channel n =
      if onTick = 0 ∧ offTick = 0 then .forcedLow else .ticks onTick.toNat offTick.toNat) ∧
  (∀ (ch : BitVec 8) (onTick offTick : BitVec 16) (s : State) (c : Ctx) (acks : List Ack),
    s.ctx? = some c → c.pos = 0 → s.ready = true → ch.toNat < 16 → onTick.toNat ≤ 4095 → offTick.toNat ≤ 4095 →
    s.env.acks = List.replicate 4 .ok ++ acks →
    ∃ t, runSegments (.wrch ch onTick offTick) 5 s = .next t ∧
      t.chip.channel ch.toNat = .ticks onTick.toNat offTick.toNat ∧
      ∀ n < 16, n ≠ ch.toNat → t.chip.channel n = s.chip.channel n)

/-- A SETFREQ run alone with every transaction answered `ok`: the chip is asleep from its sleep-mode write until its
restart write (R259), the prescale written in between is the chip's where it is 3 or more (91_not_in_source.md N13), and
the restart write resumes the oscillator, unless the byte read had SLEEP set, which the restore and restart writes then
keep set (R224). The view of the chip and its oscillator are log 17 and log 24. -/
def Obligations.SetfreqSleepsUntilItsRestart : Prop :=
  ∀ (num : BitVec 32) (den : BitVec 24) (p : Nat) (s : State) (c : Ctx) (old : Byte) (t1 t2 : Rat)
    (acks : List Ack) (reads : List ReadAnswer) (clocks : List Rat),
    s.ctx? = some c → c.cmd = some (.setfreq num den) → c.pos = 0 → s.ready = true → num ≠ 0 →
    prescaleOf ((num.toNat : Rat) / (den.toNat : Rat)) = p → p ≤ 255 →
    s.env.acks = List.replicate 4 .ok ++ acks → s.env.reads = .ok old :: reads →
    s.env.clocks = t1 :: t2 :: clocks → 0 ≤ s.lastClock → s.lastClock ≤ t1 → t1 + 5 ≤ t2 →
    (∀ k, 2 ≤ k → k ≤ 5 → ∃ u, runSegments (.setfreq num den) k s = .next u ∧ u.chipAsleep = some true) ∧
    ∃ t, runSegments (.setfreq num den) 7 s = .next t ∧ (t.chip.freq = if p < 3 then none else some (freqOf (BitVec.ofNat 8 p))) ∧
      t.chip.osc = if old &&& 0x10 = 0 then .running else .stopped
end

