-- ==== Sys2Proof/Laws/Ctx.lean ====
section
/-! SUPPORT. Sys2Proof/Laws/Ctx.lean: one lemma per field per update of an operation context. -/

namespace Sys2Proof.Machine


/-! ### tookAck -/

@[simp] theorem Ctx.tookAck_word (a : Ack) (c : Ctx) : (c.tookAck a).word = c.word := rfl
@[simp] theorem Ctx.tookAck_cmd (a : Ack) (c : Ctx) : (c.tookAck a).cmd = c.cmd := rfl
@[simp] theorem Ctx.tookAck_pos (a : Ack) (c : Ctx) : (c.tookAck a).pos = c.pos + 1 := rfl
@[simp] theorem Ctx.tookAck_wrote (a : Ack) (c : Ctx) : (c.tookAck a).wrote = (c.wrote || a == .ok) := rfl
@[simp] theorem Ctx.tookAck_answer (a : Ack) (c : Ctx) : (c.tookAck a).answer = .ofAck a := rfl
@[simp] theorem Ctx.tookAck_m (a : Ack) (c : Ctx) : (c.tookAck a).m = c.m := rfl
@[simp] theorem Ctx.tookAck_old (a : Ack) (c : Ctx) : (c.tookAck a).old = c.old := rfl
@[simp] theorem Ctx.tookAck_p8 (a : Ack) (c : Ctx) : (c.tookAck a).p8 = c.p8 := rfl
@[simp] theorem Ctx.tookAck_duty (a : Ack) (c : Ctx) : (c.tookAck a).duty = c.duty := rfl
@[simp] theorem Ctx.tookAck_dir (a : Ack) (c : Ctx) : (c.tookAck a).dir = c.dir := rfl
@[simp] theorem Ctx.tookAck_count (a : Ack) (c : Ctx) : (c.tookAck a).count = c.count := rfl
@[simp] theorem Ctx.tookAck_i (a : Ack) (c : Ctx) : (c.tookAck a).i = c.i := rfl
@[simp] theorem Ctx.tookAck_tFirst (a : Ack) (c : Ctx) : (c.tookAck a).tFirst = c.tFirst := rfl
@[simp] theorem Ctx.tookAck_tS (a : Ack) (c : Ctx) : (c.tookAck a).tS = c.tS := rfl
@[simp] theorem Ctx.tookAck_tEnd (a : Ack) (c : Ctx) : (c.tookAck a).tEnd = c.tEnd := rfl
@[simp] theorem Ctx.tookAck_deadline (a : Ack) (c : Ctx) : (c.tookAck a).deadline = c.deadline := rfl

/-! ### tookRead -/

@[simp] theorem Ctx.tookRead_word (a : ReadAnswer) (c : Ctx) : (c.tookRead a).word = c.word := rfl
@[simp] theorem Ctx.tookRead_cmd (a : ReadAnswer) (c : Ctx) : (c.tookRead a).cmd = c.cmd := rfl
@[simp] theorem Ctx.tookRead_pos (a : ReadAnswer) (c : Ctx) : (c.tookRead a).pos = c.pos + 1 := rfl
@[simp] theorem Ctx.tookRead_wrote (a : ReadAnswer) (c : Ctx) : (c.tookRead a).wrote = c.wrote := rfl
@[simp] theorem Ctx.tookRead_answer (a : ReadAnswer) (c : Ctx) : (c.tookRead a).answer = .ofRead a := rfl
@[simp] theorem Ctx.tookRead_m (a : ReadAnswer) (c : Ctx) : (c.tookRead a).m = c.m := rfl
@[simp] theorem Ctx.tookRead_old (a : ReadAnswer) (c : Ctx) : (c.tookRead a).old = c.old := rfl
@[simp] theorem Ctx.tookRead_p8 (a : ReadAnswer) (c : Ctx) : (c.tookRead a).p8 = c.p8 := rfl
@[simp] theorem Ctx.tookRead_duty (a : ReadAnswer) (c : Ctx) : (c.tookRead a).duty = c.duty := rfl
@[simp] theorem Ctx.tookRead_dir (a : ReadAnswer) (c : Ctx) : (c.tookRead a).dir = c.dir := rfl
@[simp] theorem Ctx.tookRead_count (a : ReadAnswer) (c : Ctx) : (c.tookRead a).count = c.count := rfl
@[simp] theorem Ctx.tookRead_i (a : ReadAnswer) (c : Ctx) : (c.tookRead a).i = c.i := rfl
@[simp] theorem Ctx.tookRead_tFirst (a : ReadAnswer) (c : Ctx) : (c.tookRead a).tFirst = c.tFirst := rfl
@[simp] theorem Ctx.tookRead_tS (a : ReadAnswer) (c : Ctx) : (c.tookRead a).tS = c.tS := rfl
@[simp] theorem Ctx.tookRead_tEnd (a : ReadAnswer) (c : Ctx) : (c.tookRead a).tEnd = c.tEnd := rfl
@[simp] theorem Ctx.tookRead_deadline (a : ReadAnswer) (c : Ctx) : (c.tookRead a).deadline = c.deadline := rfl

/-! ### waiting -/

@[simp] theorem Ctx.waiting_word (t : Rat) (c : Ctx) : (c.waiting t).word = c.word := rfl
@[simp] theorem Ctx.waiting_cmd (t : Rat) (c : Ctx) : (c.waiting t).cmd = c.cmd := rfl
@[simp] theorem Ctx.waiting_pos (t : Rat) (c : Ctx) : (c.waiting t).pos = c.pos + 1 := rfl
@[simp] theorem Ctx.waiting_wrote (t : Rat) (c : Ctx) : (c.waiting t).wrote = c.wrote := rfl
@[simp] theorem Ctx.waiting_answer (t : Rat) (c : Ctx) : (c.waiting t).answer = .nothing := rfl
@[simp] theorem Ctx.waiting_m (t : Rat) (c : Ctx) : (c.waiting t).m = c.m := rfl
@[simp] theorem Ctx.waiting_old (t : Rat) (c : Ctx) : (c.waiting t).old = c.old := rfl
@[simp] theorem Ctx.waiting_p8 (t : Rat) (c : Ctx) : (c.waiting t).p8 = c.p8 := rfl
@[simp] theorem Ctx.waiting_duty (t : Rat) (c : Ctx) : (c.waiting t).duty = c.duty := rfl
@[simp] theorem Ctx.waiting_dir (t : Rat) (c : Ctx) : (c.waiting t).dir = c.dir := rfl
@[simp] theorem Ctx.waiting_count (t : Rat) (c : Ctx) : (c.waiting t).count = c.count := rfl
@[simp] theorem Ctx.waiting_i (t : Rat) (c : Ctx) : (c.waiting t).i = c.i := rfl
@[simp] theorem Ctx.waiting_tFirst (t : Rat) (c : Ctx) : (c.waiting t).tFirst = c.tFirst := rfl
@[simp] theorem Ctx.waiting_tS (t : Rat) (c : Ctx) : (c.waiting t).tS = c.tS := rfl
@[simp] theorem Ctx.waiting_tEnd (t : Rat) (c : Ctx) : (c.waiting t).tEnd = c.tEnd := rfl
@[simp] theorem Ctx.waiting_deadline (t : Rat) (c : Ctx) : (c.waiting t).deadline = some t := rfl

/-! ### resumed -/

@[simp] theorem Ctx.resumed_word (c : Ctx) : (c.resumed).word = c.word := rfl
@[simp] theorem Ctx.resumed_cmd (c : Ctx) : (c.resumed).cmd = c.cmd := rfl
@[simp] theorem Ctx.resumed_pos (c : Ctx) : (c.resumed).pos = c.pos := rfl
@[simp] theorem Ctx.resumed_wrote (c : Ctx) : (c.resumed).wrote = c.wrote := rfl
@[simp] theorem Ctx.resumed_answer (c : Ctx) : (c.resumed).answer = c.answer := rfl
@[simp] theorem Ctx.resumed_m (c : Ctx) : (c.resumed).m = c.m := rfl
@[simp] theorem Ctx.resumed_old (c : Ctx) : (c.resumed).old = c.old := rfl
@[simp] theorem Ctx.resumed_p8 (c : Ctx) : (c.resumed).p8 = c.p8 := rfl
@[simp] theorem Ctx.resumed_duty (c : Ctx) : (c.resumed).duty = c.duty := rfl
@[simp] theorem Ctx.resumed_dir (c : Ctx) : (c.resumed).dir = c.dir := rfl
@[simp] theorem Ctx.resumed_count (c : Ctx) : (c.resumed).count = c.count := rfl
@[simp] theorem Ctx.resumed_i (c : Ctx) : (c.resumed).i = c.i := rfl
@[simp] theorem Ctx.resumed_tFirst (c : Ctx) : (c.resumed).tFirst = c.tFirst := rfl
@[simp] theorem Ctx.resumed_tS (c : Ctx) : (c.resumed).tS = c.tS := rfl
@[simp] theorem Ctx.resumed_tEnd (c : Ctx) : (c.resumed).tEnd = c.tEnd := rfl
@[simp] theorem Ctx.resumed_deadline (c : Ctx) : (c.resumed).deadline = none := rfl

/-! ### keepM -/

@[simp] theorem Ctx.keepM_word (b : Byte) (c : Ctx) : (c.keepM b).word = c.word := rfl
@[simp] theorem Ctx.keepM_cmd (b : Byte) (c : Ctx) : (c.keepM b).cmd = c.cmd := rfl
@[simp] theorem Ctx.keepM_pos (b : Byte) (c : Ctx) : (c.keepM b).pos = c.pos := rfl
@[simp] theorem Ctx.keepM_wrote (b : Byte) (c : Ctx) : (c.keepM b).wrote = c.wrote := rfl
@[simp] theorem Ctx.keepM_answer (b : Byte) (c : Ctx) : (c.keepM b).answer = c.answer := rfl
@[simp] theorem Ctx.keepM_m (b : Byte) (c : Ctx) : (c.keepM b).m = b := rfl
@[simp] theorem Ctx.keepM_old (b : Byte) (c : Ctx) : (c.keepM b).old = c.old := rfl
@[simp] theorem Ctx.keepM_p8 (b : Byte) (c : Ctx) : (c.keepM b).p8 = c.p8 := rfl
@[simp] theorem Ctx.keepM_duty (b : Byte) (c : Ctx) : (c.keepM b).duty = c.duty := rfl
@[simp] theorem Ctx.keepM_dir (b : Byte) (c : Ctx) : (c.keepM b).dir = c.dir := rfl
@[simp] theorem Ctx.keepM_count (b : Byte) (c : Ctx) : (c.keepM b).count = c.count := rfl
@[simp] theorem Ctx.keepM_i (b : Byte) (c : Ctx) : (c.keepM b).i = c.i := rfl
@[simp] theorem Ctx.keepM_tFirst (b : Byte) (c : Ctx) : (c.keepM b).tFirst = c.tFirst := rfl
@[simp] theorem Ctx.keepM_tS (b : Byte) (c : Ctx) : (c.keepM b).tS = c.tS := rfl
@[simp] theorem Ctx.keepM_tEnd (b : Byte) (c : Ctx) : (c.keepM b).tEnd = c.tEnd := rfl
@[simp] theorem Ctx.keepM_deadline (b : Byte) (c : Ctx) : (c.keepM b).deadline = c.deadline := rfl

/-! ### keepOld -/

@[simp] theorem Ctx.keepOld_word (b : Byte) (c : Ctx) : (c.keepOld b).word = c.word := rfl
@[simp] theorem Ctx.keepOld_cmd (b : Byte) (c : Ctx) : (c.keepOld b).cmd = c.cmd := rfl
@[simp] theorem Ctx.keepOld_pos (b : Byte) (c : Ctx) : (c.keepOld b).pos = c.pos := rfl
@[simp] theorem Ctx.keepOld_wrote (b : Byte) (c : Ctx) : (c.keepOld b).wrote = c.wrote := rfl
@[simp] theorem Ctx.keepOld_answer (b : Byte) (c : Ctx) : (c.keepOld b).answer = c.answer := rfl
@[simp] theorem Ctx.keepOld_m (b : Byte) (c : Ctx) : (c.keepOld b).m = c.m := rfl
@[simp] theorem Ctx.keepOld_old (b : Byte) (c : Ctx) : (c.keepOld b).old = b := rfl
@[simp] theorem Ctx.keepOld_p8 (b : Byte) (c : Ctx) : (c.keepOld b).p8 = c.p8 := rfl
@[simp] theorem Ctx.keepOld_duty (b : Byte) (c : Ctx) : (c.keepOld b).duty = c.duty := rfl
@[simp] theorem Ctx.keepOld_dir (b : Byte) (c : Ctx) : (c.keepOld b).dir = c.dir := rfl
@[simp] theorem Ctx.keepOld_count (b : Byte) (c : Ctx) : (c.keepOld b).count = c.count := rfl
@[simp] theorem Ctx.keepOld_i (b : Byte) (c : Ctx) : (c.keepOld b).i = c.i := rfl
@[simp] theorem Ctx.keepOld_tFirst (b : Byte) (c : Ctx) : (c.keepOld b).tFirst = c.tFirst := rfl
@[simp] theorem Ctx.keepOld_tS (b : Byte) (c : Ctx) : (c.keepOld b).tS = c.tS := rfl
@[simp] theorem Ctx.keepOld_tEnd (b : Byte) (c : Ctx) : (c.keepOld b).tEnd = c.tEnd := rfl
@[simp] theorem Ctx.keepOld_deadline (b : Byte) (c : Ctx) : (c.keepOld b).deadline = c.deadline := rfl

/-! ### keepP8 -/

@[simp] theorem Ctx.keepP8_word (b : Byte) (c : Ctx) : (c.keepP8 b).word = c.word := rfl
@[simp] theorem Ctx.keepP8_cmd (b : Byte) (c : Ctx) : (c.keepP8 b).cmd = c.cmd := rfl
@[simp] theorem Ctx.keepP8_pos (b : Byte) (c : Ctx) : (c.keepP8 b).pos = c.pos := rfl
@[simp] theorem Ctx.keepP8_wrote (b : Byte) (c : Ctx) : (c.keepP8 b).wrote = c.wrote := rfl
@[simp] theorem Ctx.keepP8_answer (b : Byte) (c : Ctx) : (c.keepP8 b).answer = c.answer := rfl
@[simp] theorem Ctx.keepP8_m (b : Byte) (c : Ctx) : (c.keepP8 b).m = c.m := rfl
@[simp] theorem Ctx.keepP8_old (b : Byte) (c : Ctx) : (c.keepP8 b).old = c.old := rfl
@[simp] theorem Ctx.keepP8_p8 (b : Byte) (c : Ctx) : (c.keepP8 b).p8 = b := rfl
@[simp] theorem Ctx.keepP8_duty (b : Byte) (c : Ctx) : (c.keepP8 b).duty = c.duty := rfl
@[simp] theorem Ctx.keepP8_dir (b : Byte) (c : Ctx) : (c.keepP8 b).dir = c.dir := rfl
@[simp] theorem Ctx.keepP8_count (b : Byte) (c : Ctx) : (c.keepP8 b).count = c.count := rfl
@[simp] theorem Ctx.keepP8_i (b : Byte) (c : Ctx) : (c.keepP8 b).i = c.i := rfl
@[simp] theorem Ctx.keepP8_tFirst (b : Byte) (c : Ctx) : (c.keepP8 b).tFirst = c.tFirst := rfl
@[simp] theorem Ctx.keepP8_tS (b : Byte) (c : Ctx) : (c.keepP8 b).tS = c.tS := rfl
@[simp] theorem Ctx.keepP8_tEnd (b : Byte) (c : Ctx) : (c.keepP8 b).tEnd = c.tEnd := rfl
@[simp] theorem Ctx.keepP8_deadline (b : Byte) (c : Ctx) : (c.keepP8 b).deadline = c.deadline := rfl

/-! ### keepDuty -/

@[simp] theorem Ctx.keepDuty_word (d : Int) (c : Ctx) : (c.keepDuty d).word = c.word := rfl
@[simp] theorem Ctx.keepDuty_cmd (d : Int) (c : Ctx) : (c.keepDuty d).cmd = c.cmd := rfl
@[simp] theorem Ctx.keepDuty_pos (d : Int) (c : Ctx) : (c.keepDuty d).pos = c.pos := rfl
@[simp] theorem Ctx.keepDuty_wrote (d : Int) (c : Ctx) : (c.keepDuty d).wrote = c.wrote := rfl
@[simp] theorem Ctx.keepDuty_answer (d : Int) (c : Ctx) : (c.keepDuty d).answer = c.answer := rfl
@[simp] theorem Ctx.keepDuty_m (d : Int) (c : Ctx) : (c.keepDuty d).m = c.m := rfl
@[simp] theorem Ctx.keepDuty_old (d : Int) (c : Ctx) : (c.keepDuty d).old = c.old := rfl
@[simp] theorem Ctx.keepDuty_p8 (d : Int) (c : Ctx) : (c.keepDuty d).p8 = c.p8 := rfl
@[simp] theorem Ctx.keepDuty_duty (d : Int) (c : Ctx) : (c.keepDuty d).duty = d := rfl
@[simp] theorem Ctx.keepDuty_dir (d : Int) (c : Ctx) : (c.keepDuty d).dir = c.dir := rfl
@[simp] theorem Ctx.keepDuty_count (d : Int) (c : Ctx) : (c.keepDuty d).count = c.count := rfl
@[simp] theorem Ctx.keepDuty_i (d : Int) (c : Ctx) : (c.keepDuty d).i = c.i := rfl
@[simp] theorem Ctx.keepDuty_tFirst (d : Int) (c : Ctx) : (c.keepDuty d).tFirst = c.tFirst := rfl
@[simp] theorem Ctx.keepDuty_tS (d : Int) (c : Ctx) : (c.keepDuty d).tS = c.tS := rfl
@[simp] theorem Ctx.keepDuty_tEnd (d : Int) (c : Ctx) : (c.keepDuty d).tEnd = c.tEnd := rfl
@[simp] theorem Ctx.keepDuty_deadline (d : Int) (c : Ctx) : (c.keepDuty d).deadline = c.deadline := rfl

/-! ### decoded -/

@[simp] theorem Ctx.decoded_word (j : Instr) (c : Ctx) : (c.decoded j).word = c.word := rfl
@[simp] theorem Ctx.decoded_cmd (j : Instr) (c : Ctx) : (c.decoded j).cmd = some j := rfl
@[simp] theorem Ctx.decoded_pos (j : Instr) (c : Ctx) : (c.decoded j).pos = c.pos := rfl
@[simp] theorem Ctx.decoded_wrote (j : Instr) (c : Ctx) : (c.decoded j).wrote = c.wrote := rfl
@[simp] theorem Ctx.decoded_answer (j : Instr) (c : Ctx) : (c.decoded j).answer = c.answer := rfl
@[simp] theorem Ctx.decoded_m (j : Instr) (c : Ctx) : (c.decoded j).m = c.m := rfl
@[simp] theorem Ctx.decoded_old (j : Instr) (c : Ctx) : (c.decoded j).old = c.old := rfl
@[simp] theorem Ctx.decoded_p8 (j : Instr) (c : Ctx) : (c.decoded j).p8 = c.p8 := rfl
@[simp] theorem Ctx.decoded_duty (j : Instr) (c : Ctx) : (c.decoded j).duty = c.duty := rfl
@[simp] theorem Ctx.decoded_dir (j : Instr) (c : Ctx) : (c.decoded j).dir = c.dir := rfl
@[simp] theorem Ctx.decoded_count (j : Instr) (c : Ctx) : (c.decoded j).count = c.count := rfl
@[simp] theorem Ctx.decoded_i (j : Instr) (c : Ctx) : (c.decoded j).i = c.i := rfl
@[simp] theorem Ctx.decoded_tFirst (j : Instr) (c : Ctx) : (c.decoded j).tFirst = c.tFirst := rfl
@[simp] theorem Ctx.decoded_tS (j : Instr) (c : Ctx) : (c.decoded j).tS = c.tS := rfl
@[simp] theorem Ctx.decoded_tEnd (j : Instr) (c : Ctx) : (c.decoded j).tEnd = c.tEnd := rfl
@[simp] theorem Ctx.decoded_deadline (j : Instr) (c : Ctx) : (c.decoded j).deadline = c.deadline := rfl

/-! ### startIteration -/

@[simp] theorem Ctx.startIteration_word (t : Rat) (c : Ctx) : (c.startIteration t).word = c.word := rfl
@[simp] theorem Ctx.startIteration_cmd (t : Rat) (c : Ctx) : (c.startIteration t).cmd = c.cmd := rfl
@[simp] theorem Ctx.startIteration_pos (t : Rat) (c : Ctx) : (c.startIteration t).pos = 0 := rfl
@[simp] theorem Ctx.startIteration_wrote (t : Rat) (c : Ctx) : (c.startIteration t).wrote = c.wrote := rfl
@[simp] theorem Ctx.startIteration_answer (t : Rat) (c : Ctx) : (c.startIteration t).answer = c.answer := rfl
@[simp] theorem Ctx.startIteration_m (t : Rat) (c : Ctx) : (c.startIteration t).m = c.m := rfl
@[simp] theorem Ctx.startIteration_old (t : Rat) (c : Ctx) : (c.startIteration t).old = c.old := rfl
@[simp] theorem Ctx.startIteration_p8 (t : Rat) (c : Ctx) : (c.startIteration t).p8 = c.p8 := rfl
@[simp] theorem Ctx.startIteration_duty (t : Rat) (c : Ctx) : (c.startIteration t).duty = c.duty := rfl
@[simp] theorem Ctx.startIteration_dir (t : Rat) (c : Ctx) : (c.startIteration t).dir = c.dir := rfl
@[simp] theorem Ctx.startIteration_count (t : Rat) (c : Ctx) : (c.startIteration t).count = c.count := rfl
@[simp] theorem Ctx.startIteration_i (t : Rat) (c : Ctx) : (c.startIteration t).i = c.i := rfl
@[simp] theorem Ctx.startIteration_tFirst (t : Rat) (c : Ctx) : (c.startIteration t).tFirst = if c.i = 0 then some t else c.tFirst := rfl
@[simp] theorem Ctx.startIteration_tS (t : Rat) (c : Ctx) : (c.startIteration t).tS = t := rfl
@[simp] theorem Ctx.startIteration_tEnd (t : Rat) (c : Ctx) : (c.startIteration t).tEnd = c.tEnd := rfl
@[simp] theorem Ctx.startIteration_deadline (t : Rat) (c : Ctx) : (c.startIteration t).deadline = c.deadline := rfl

/-! ### endIteration -/

@[simp] theorem Ctx.endIteration_word (t : Rat) (c : Ctx) : (c.endIteration t).word = c.word := rfl
@[simp] theorem Ctx.endIteration_cmd (t : Rat) (c : Ctx) : (c.endIteration t).cmd = c.cmd := rfl
@[simp] theorem Ctx.endIteration_pos (t : Rat) (c : Ctx) : (c.endIteration t).pos = c.pos := rfl
@[simp] theorem Ctx.endIteration_wrote (t : Rat) (c : Ctx) : (c.endIteration t).wrote = c.wrote := rfl
@[simp] theorem Ctx.endIteration_answer (t : Rat) (c : Ctx) : (c.endIteration t).answer = c.answer := rfl
@[simp] theorem Ctx.endIteration_m (t : Rat) (c : Ctx) : (c.endIteration t).m = c.m := rfl
@[simp] theorem Ctx.endIteration_old (t : Rat) (c : Ctx) : (c.endIteration t).old = c.old := rfl
@[simp] theorem Ctx.endIteration_p8 (t : Rat) (c : Ctx) : (c.endIteration t).p8 = c.p8 := rfl
@[simp] theorem Ctx.endIteration_duty (t : Rat) (c : Ctx) : (c.endIteration t).duty = c.duty := rfl
@[simp] theorem Ctx.endIteration_dir (t : Rat) (c : Ctx) : (c.endIteration t).dir = c.dir := rfl
@[simp] theorem Ctx.endIteration_count (t : Rat) (c : Ctx) : (c.endIteration t).count = c.count := rfl
@[simp] theorem Ctx.endIteration_i (t : Rat) (c : Ctx) : (c.endIteration t).i = c.i + 1 := rfl
@[simp] theorem Ctx.endIteration_tFirst (t : Rat) (c : Ctx) : (c.endIteration t).tFirst = c.tFirst := rfl
@[simp] theorem Ctx.endIteration_tS (t : Rat) (c : Ctx) : (c.endIteration t).tS = c.tS := rfl
@[simp] theorem Ctx.endIteration_tEnd (t : Rat) (c : Ctx) : (c.endIteration t).tEnd = t := rfl
@[simp] theorem Ctx.endIteration_deadline (t : Rat) (c : Ctx) : (c.endIteration t).deadline = c.deadline := rfl

/-! ### startLoop -/

@[simp] theorem Ctx.startLoop_word (d : Dir) (n : BitVec 32) (c : Ctx) : (c.startLoop d n).word = c.word := rfl
@[simp] theorem Ctx.startLoop_cmd (d : Dir) (n : BitVec 32) (c : Ctx) : (c.startLoop d n).cmd = c.cmd := rfl
@[simp] theorem Ctx.startLoop_pos (d : Dir) (n : BitVec 32) (c : Ctx) : (c.startLoop d n).pos = c.pos := rfl
@[simp] theorem Ctx.startLoop_wrote (d : Dir) (n : BitVec 32) (c : Ctx) : (c.startLoop d n).wrote = c.wrote := rfl
@[simp] theorem Ctx.startLoop_answer (d : Dir) (n : BitVec 32) (c : Ctx) : (c.startLoop d n).answer = c.answer := rfl
@[simp] theorem Ctx.startLoop_m (d : Dir) (n : BitVec 32) (c : Ctx) : (c.startLoop d n).m = c.m := rfl
@[simp] theorem Ctx.startLoop_old (d : Dir) (n : BitVec 32) (c : Ctx) : (c.startLoop d n).old = c.old := rfl
@[simp] theorem Ctx.startLoop_p8 (d : Dir) (n : BitVec 32) (c : Ctx) : (c.startLoop d n).p8 = c.p8 := rfl
@[simp] theorem Ctx.startLoop_duty (d : Dir) (n : BitVec 32) (c : Ctx) : (c.startLoop d n).duty = c.duty := rfl
@[simp] theorem Ctx.startLoop_dir (d : Dir) (n : BitVec 32) (c : Ctx) : (c.startLoop d n).dir = d := rfl
@[simp] theorem Ctx.startLoop_count (d : Dir) (n : BitVec 32) (c : Ctx) : (c.startLoop d n).count = n := rfl
@[simp] theorem Ctx.startLoop_i (d : Dir) (n : BitVec 32) (c : Ctx) : (c.startLoop d n).i = 0 := rfl
@[simp] theorem Ctx.startLoop_tFirst (d : Dir) (n : BitVec 32) (c : Ctx) : (c.startLoop d n).tFirst = c.tFirst := rfl
@[simp] theorem Ctx.startLoop_tS (d : Dir) (n : BitVec 32) (c : Ctx) : (c.startLoop d n).tS = c.tS := rfl
@[simp] theorem Ctx.startLoop_tEnd (d : Dir) (n : BitVec 32) (c : Ctx) : (c.startLoop d n).tEnd = c.tEnd := rfl
@[simp] theorem Ctx.startLoop_deadline (d : Dir) (n : BitVec 32) (c : Ctx) : (c.startLoop d n).deadline = c.deadline := rfl

end Sys2Proof.Machine
end

