-- ==== Sys2Proof/Laws/Encoding.lean ====
section
/-! SUPPORT. Sys2Proof/Laws/Encoding.lean: each field of an encoded command, read back (30_encoding.md R83 to R90). -/

namespace Sys2Proof

/-- A field above the low part of a concatenation lies in the high part. -/
theorem extract_high {v u : Nat} (hi : BitVec v) (lo : BitVec u) (start len : Nat) (h : u ≤ start) :
    (hi ++ lo).extractLsb' start len = hi.extractLsb' (start - u) len := BitVec.extractLsb'_append_eq_of_le h

/-- A field inside the low part of a concatenation lies in the low part. -/
theorem extract_low {v u : Nat} (hi : BitVec v) (lo : BitVec u) (start len : Nat) (h : start + len ≤ u) :
    (hi ++ lo).extractLsb' start len = lo.extractLsb' start len := BitVec.extractLsb'_append_eq_of_add_le h

@[simp] theorem PinState.ofBit_bit (p : PinState) : PinState.ofBit p.bit = p := by cases p <;> decide

@[simp] theorem Dir.ofBit_bit (d : Dir) : Dir.ofBit d.bit = d := by cases d <;> decide

@[simp] theorem PinState.bit_ofBit (b : BitVec 1) : (PinState.ofBit b).bit = b := by revert b; decide

@[simp] theorem Dir.bit_ofBit (b : BitVec 1) : (Dir.ofBit b).bit = b := by revert b; decide

/-- Two adjacent fields of a word, put together. -/
theorem field_append {w : Word} {hi lo n m : Nat} (h : hi = lo + m) :
    field w hi n ++ field w lo m = field w lo (n + m) :=
  BitVec.extractLsb'_append_extractLsb'_eq_extractLsb' h

/-- All 64 bits of a word. -/
theorem field_all (w : Word) : field w 0 64 = w := BitVec.extractLsb'_eq_self


@[simp] theorem opcode_encode_init : opcode (encode (.init)) = 0x01#8 := by
  show (0x01#8 ++ 0#56).extractLsb' 56 8 = _
  rw [extract_high _ _ _ _ (by decide)]
  exact BitVec.extractLsb'_eq_self
@[simp] theorem rest_encode_init : field (encode (.init)) 0 56 = 0#56 := by
  show (0x01#8 ++ 0#56).extractLsb' 0 56 = _
  rw [extract_low _ _ _ _ (by decide)]
  exact BitVec.extractLsb'_eq_self

@[simp] theorem opcode_encode_wrch (ch : BitVec 8) (a b : BitVec 16) : opcode (encode (.wrch ch a b)) = 0x02#8 := by
  show (0x02#8 ++ ch ++ a ++ b ++ 0#16).extractLsb' 56 8 = _
  rw [extract_high _ _ _ _ (by decide), extract_high _ _ _ _ (by decide), extract_high _ _ _ _ (by decide), extract_high _ _ _ _ (by decide)]
  exact BitVec.extractLsb'_eq_self
@[simp] theorem ch_encode_wrch (ch : BitVec 8) (a b : BitVec 16) : field (encode (.wrch ch a b)) 48 8 = ch := by
  show (0x02#8 ++ ch ++ a ++ b ++ 0#16).extractLsb' 48 8 = _
  rw [extract_high _ _ _ _ (by decide), extract_high _ _ _ _ (by decide), extract_high _ _ _ _ (by decide), extract_low _ _ _ _ (by decide)]
  exact BitVec.extractLsb'_eq_self
@[simp] theorem on_encode_wrch (ch : BitVec 8) (a b : BitVec 16) : field (encode (.wrch ch a b)) 32 16 = a := by
  show (0x02#8 ++ ch ++ a ++ b ++ 0#16).extractLsb' 32 16 = _
  rw [extract_high _ _ _ _ (by decide), extract_high _ _ _ _ (by decide), extract_low _ _ _ _ (by decide)]
  exact BitVec.extractLsb'_eq_self
@[simp] theorem off_encode_wrch (ch : BitVec 8) (a b : BitVec 16) : field (encode (.wrch ch a b)) 16 16 = b := by
  show (0x02#8 ++ ch ++ a ++ b ++ 0#16).extractLsb' 16 16 = _
  rw [extract_high _ _ _ _ (by decide), extract_low _ _ _ _ (by decide)]
  exact BitVec.extractLsb'_eq_self
@[simp] theorem rest_encode_wrch (ch : BitVec 8) (a b : BitVec 16) : field (encode (.wrch ch a b)) 0 16 = 0#16 := by
  show (0x02#8 ++ ch ++ a ++ b ++ 0#16).extractLsb' 0 16 = _
  rw [extract_low _ _ _ _ (by decide)]
  exact BitVec.extractLsb'_eq_self

@[simp] theorem opcode_encode_wrall (a b : BitVec 16) : opcode (encode (.wrall a b)) = 0x03#8 := by
  show (0x03#8 ++ 0#8 ++ a ++ b ++ 0#16).extractLsb' 56 8 = _
  rw [extract_high _ _ _ _ (by decide), extract_high _ _ _ _ (by decide), extract_high _ _ _ _ (by decide), extract_high _ _ _ _ (by decide)]
  exact BitVec.extractLsb'_eq_self
@[simp] theorem high_encode_wrall (a b : BitVec 16) : field (encode (.wrall a b)) 48 8 = 0#8 := by
  show (0x03#8 ++ 0#8 ++ a ++ b ++ 0#16).extractLsb' 48 8 = _
  rw [extract_high _ _ _ _ (by decide), extract_high _ _ _ _ (by decide), extract_high _ _ _ _ (by decide), extract_low _ _ _ _ (by decide)]
  exact BitVec.extractLsb'_eq_self
@[simp] theorem on_encode_wrall (a b : BitVec 16) : field (encode (.wrall a b)) 32 16 = a := by
  show (0x03#8 ++ 0#8 ++ a ++ b ++ 0#16).extractLsb' 32 16 = _
  rw [extract_high _ _ _ _ (by decide), extract_high _ _ _ _ (by decide), extract_low _ _ _ _ (by decide)]
  exact BitVec.extractLsb'_eq_self
@[simp] theorem off_encode_wrall (a b : BitVec 16) : field (encode (.wrall a b)) 16 16 = b := by
  show (0x03#8 ++ 0#8 ++ a ++ b ++ 0#16).extractLsb' 16 16 = _
  rw [extract_high _ _ _ _ (by decide), extract_low _ _ _ _ (by decide)]
  exact BitVec.extractLsb'_eq_self
@[simp] theorem rest_encode_wrall (a b : BitVec 16) : field (encode (.wrall a b)) 0 16 = 0#16 := by
  show (0x03#8 ++ 0#8 ++ a ++ b ++ 0#16).extractLsb' 0 16 = _
  rw [extract_low _ _ _ _ (by decide)]
  exact BitVec.extractLsb'_eq_self

@[simp] theorem opcode_encode_setpin (ch : BitVec 8) (p : PinState) : opcode (encode (.setpin ch p)) = 0x04#8 := by
  show (0x04#8 ++ ch ++ 0#47 ++ p.bit).extractLsb' 56 8 = _
  rw [extract_high _ _ _ _ (by decide), extract_high _ _ _ _ (by decide), extract_high _ _ _ _ (by decide)]
  exact BitVec.extractLsb'_eq_self
@[simp] theorem ch_encode_setpin (ch : BitVec 8) (p : PinState) : field (encode (.setpin ch p)) 48 8 = ch := by
  show (0x04#8 ++ ch ++ 0#47 ++ p.bit).extractLsb' 48 8 = _
  rw [extract_high _ _ _ _ (by decide), extract_high _ _ _ _ (by decide), extract_low _ _ _ _ (by decide)]
  exact BitVec.extractLsb'_eq_self
@[simp] theorem rest_encode_setpin (ch : BitVec 8) (p : PinState) : field (encode (.setpin ch p)) 1 47 = 0#47 := by
  show (0x04#8 ++ ch ++ 0#47 ++ p.bit).extractLsb' 1 47 = _
  rw [extract_high _ _ _ _ (by decide), extract_low _ _ _ _ (by decide)]
  exact BitVec.extractLsb'_eq_self
@[simp] theorem pin_encode_setpin (ch : BitVec 8) (p : PinState) : field (encode (.setpin ch p)) 0 1 = p.bit := by
  show (0x04#8 ++ ch ++ 0#47 ++ p.bit).extractLsb' 0 1 = _
  rw [extract_low _ _ _ _ (by decide)]
  exact BitVec.extractLsb'_eq_self

@[simp] theorem opcode_encode_setfreq (n : BitVec 32) (d : BitVec 24) : opcode (encode (.setfreq n d)) = 0x05#8 := by
  show (0x05#8 ++ n ++ d).extractLsb' 56 8 = _
  rw [extract_high _ _ _ _ (by decide), extract_high _ _ _ _ (by decide)]
  exact BitVec.extractLsb'_eq_self
@[simp] theorem num_encode_setfreq (n : BitVec 32) (d : BitVec 24) : field (encode (.setfreq n d)) 24 32 = n := by
  show (0x05#8 ++ n ++ d).extractLsb' 24 32 = _
  rw [extract_high _ _ _ _ (by decide), extract_low _ _ _ _ (by decide)]
  exact BitVec.extractLsb'_eq_self
@[simp] theorem den_encode_setfreq (n : BitVec 32) (d : BitVec 24) : field (encode (.setfreq n d)) 0 24 = d := by
  show (0x05#8 ++ n ++ d).extractLsb' 0 24 = _
  rw [extract_low _ _ _ _ (by decide)]
  exact BitVec.extractLsb'_eq_self

@[simp] theorem opcode_encode_getfreq : opcode (encode (.getfreq)) = 0x06#8 := by
  show (0x06#8 ++ 0#56).extractLsb' 56 8 = _
  rw [extract_high _ _ _ _ (by decide)]
  exact BitVec.extractLsb'_eq_self
@[simp] theorem rest_encode_getfreq : field (encode (.getfreq)) 0 56 = 0#56 := by
  show (0x06#8 ++ 0#56).extractLsb' 0 56 = _
  rw [extract_low _ _ _ _ (by decide)]
  exact BitVec.extractLsb'_eq_self

@[simp] theorem opcode_encode_swreset : opcode (encode (.swreset)) = 0x07#8 := by
  show (0x07#8 ++ 0#56).extractLsb' 56 8 = _
  rw [extract_high _ _ _ _ (by decide)]
  exact BitVec.extractLsb'_eq_self
@[simp] theorem rest_encode_swreset : field (encode (.swreset)) 0 56 = 0#56 := by
  show (0x07#8 ++ 0#56).extractLsb' 0 56 = _
  rw [extract_low _ _ _ _ (by decide)]
  exact BitVec.extractLsb'_eq_self

@[simp] theorem opcode_encode_setstr (n : BitVec 32) (d : BitVec 24) : opcode (encode (.setstr n d)) = 0x10#8 := by
  show (0x10#8 ++ n ++ d).extractLsb' 56 8 = _
  rw [extract_high _ _ _ _ (by decide), extract_high _ _ _ _ (by decide)]
  exact BitVec.extractLsb'_eq_self
@[simp] theorem num_encode_setstr (n : BitVec 32) (d : BitVec 24) : field (encode (.setstr n d)) 24 32 = n := by
  show (0x10#8 ++ n ++ d).extractLsb' 24 32 = _
  rw [extract_high _ _ _ _ (by decide), extract_low _ _ _ _ (by decide)]
  exact BitVec.extractLsb'_eq_self
@[simp] theorem den_encode_setstr (n : BitVec 32) (d : BitVec 24) : field (encode (.setstr n d)) 0 24 = d := by
  show (0x10#8 ++ n ++ d).extractLsb' 0 24 = _
  rw [extract_low _ _ _ _ (by decide)]
  exact BitVec.extractLsb'_eq_self

@[simp] theorem opcode_encode_coils (c : CoilState) : opcode (encode (.coils c)) = 0x11#8 := by
  show (0x11#8 ++ 0#52 ++ c).extractLsb' 56 8 = _
  rw [extract_high _ _ _ _ (by decide), extract_high _ _ _ _ (by decide)]
  exact BitVec.extractLsb'_eq_self
@[simp] theorem rest_encode_coils (c : CoilState) : field (encode (.coils c)) 4 52 = 0#52 := by
  show (0x11#8 ++ 0#52 ++ c).extractLsb' 4 52 = _
  rw [extract_high _ _ _ _ (by decide), extract_low _ _ _ _ (by decide)]
  exact BitVec.extractLsb'_eq_self
@[simp] theorem c_encode_coils (c : CoilState) : field (encode (.coils c)) 0 4 = c := by
  show (0x11#8 ++ 0#52 ++ c).extractLsb' 0 4 = _
  rw [extract_low _ _ _ _ (by decide)]
  exact BitVec.extractLsb'_eq_self

@[simp] theorem opcode_encode_idle : opcode (encode (.idle)) = 0x12#8 := by
  show (0x12#8 ++ 0#56).extractLsb' 56 8 = _
  rw [extract_high _ _ _ _ (by decide)]
  exact BitVec.extractLsb'_eq_self
@[simp] theorem rest_encode_idle : field (encode (.idle)) 0 56 = 0#56 := by
  show (0x12#8 ++ 0#56).extractLsb' 0 56 = _
  rw [extract_low _ _ _ _ (by decide)]
  exact BitVec.extractLsb'_eq_self

@[simp] theorem opcode_encode_step (d : Dir) (n : BitVec 32) : opcode (encode (.step d n)) = 0x13#8 := by
  show (0x13#8 ++ 0#7 ++ d.bit ++ 0#16 ++ n).extractLsb' 56 8 = _
  rw [extract_high _ _ _ _ (by decide), extract_high _ _ _ _ (by decide), extract_high _ _ _ _ (by decide), extract_high _ _ _ _ (by decide)]
  exact BitVec.extractLsb'_eq_self
@[simp] theorem high_encode_step (d : Dir) (n : BitVec 32) : field (encode (.step d n)) 49 7 = 0#7 := by
  show (0x13#8 ++ 0#7 ++ d.bit ++ 0#16 ++ n).extractLsb' 49 7 = _
  rw [extract_high _ _ _ _ (by decide), extract_high _ _ _ _ (by decide), extract_high _ _ _ _ (by decide), extract_low _ _ _ _ (by decide)]
  exact BitVec.extractLsb'_eq_self
@[simp] theorem dir_encode_step (d : Dir) (n : BitVec 32) : field (encode (.step d n)) 48 1 = d.bit := by
  show (0x13#8 ++ 0#7 ++ d.bit ++ 0#16 ++ n).extractLsb' 48 1 = _
  rw [extract_high _ _ _ _ (by decide), extract_high _ _ _ _ (by decide), extract_low _ _ _ _ (by decide)]
  exact BitVec.extractLsb'_eq_self
@[simp] theorem rest_encode_step (d : Dir) (n : BitVec 32) : field (encode (.step d n)) 32 16 = 0#16 := by
  show (0x13#8 ++ 0#7 ++ d.bit ++ 0#16 ++ n).extractLsb' 32 16 = _
  rw [extract_high _ _ _ _ (by decide), extract_low _ _ _ _ (by decide)]
  exact BitVec.extractLsb'_eq_self
@[simp] theorem count_encode_step (d : Dir) (n : BitVec 32) : field (encode (.step d n)) 0 32 = n := by
  show (0x13#8 ++ 0#7 ++ d.bit ++ 0#16 ++ n).extractLsb' 0 32 = _
  rw [extract_low _ _ _ _ (by decide)]
  exact BitVec.extractLsb'_eq_self

@[simp] theorem opcode_encode_stop : opcode (encode (.stop)) = 0x14#8 := by
  show (0x14#8 ++ 0#56).extractLsb' 56 8 = _
  rw [extract_high _ _ _ _ (by decide)]
  exact BitVec.extractLsb'_eq_self
@[simp] theorem rest_encode_stop : field (encode (.stop)) 0 56 = 0#56 := by
  show (0x14#8 ++ 0#56).extractLsb' 0 56 = _
  rw [extract_low _ _ _ _ (by decide)]
  exact BitVec.extractLsb'_eq_self

end Sys2Proof
end

