-- ==== Sys2Proof/Laws/Operands.lean ====
section
/-! SUPPORT. Sys2Proof/Laws/Operands.lean: what the pure functions of the commands do, so that no later proof unfolds
them. -/

namespace Sys2Proof.Machine

theorem validCh_iff (c : Nat) : validCh c = true ↔ c < 16 := by
  rw [validCh, decide_eq_true_eq]; rfl

theorem validTick_iff (v : Int) : validTick v = true ↔ 0 ≤ v ∧ v ≤ 4095 := by
  rw [validTick, Bool.and_eq_true, decide_eq_true_eq, decide_eq_true_eq]; rfl

theorem loByte_eq (v : Nat) : loByte v = BitVec.ofNat 8 (v % 256) := by
  rw [loByte, show (0xFF : Nat) = 2 ^ 8 - 1 from rfl, Nat.and_two_pow_sub_one_eq_mod]

theorem hiByte_eq (v : Nat) : hiByte v = BitVec.ofNat 8 (v / 256) := by
  rw [hiByte, Nat.shiftRight_eq_div_pow]

@[simp] theorem groupWrites_length (b : Byte) (onTick offTick : Nat) : (groupWrites b onTick offTick).length = 4 := rfl

@[simp] theorem pinWrites_length (ch : Nat) (p : PinState) : (pinWrites ch p).length = 4 := by cases p <;> rfl

@[simp] theorem coilWrites_length (w : Wiring) (c : CoilState) : (coilWrites w c).length = 16 := by
  simp [coilWrites]

@[simp] theorem dutyWrites_length (w : Wiring) (d : Int) : (dutyWrites w d).length = 8 := rfl

@[simp] theorem initWrites_length : initWrites.length = 6 := rfl

/-- The prescale passes its range check exactly when the quotient lies in [0.5, 256.5) (R141, R256). -/
theorem roundHalfUp_range (x : Rat) :
    (255 < roundHalfUp x - 1 ↔ 513 / 2 ≤ x) ∧ (roundHalfUp x - 1 < 0 ↔ x < 1 / 2) := by
  unfold roundHalfUp
  have h1 : ∀ n : Int, n ≤ ⌊x + 1 / 2⌋ ↔ (n : Rat) ≤ x + 1 / 2 := fun n => Int.le_floor
  constructor
  · rw [show (255 < ⌊x + 1 / 2⌋ - 1) ↔ (257 : Int) ≤ ⌊x + 1 / 2⌋ by omega, h1]
    push_cast
    constructor <;> intro h <;> linarith
  · rw [← not_iff_not, not_lt, not_lt, show (0 ≤ ⌊x + 1 / 2⌋ - 1) ↔ (1 : Int) ≤ ⌊x + 1 / 2⌋ by omega, h1]
    push_cast
    constructor <;> intro h <;> linarith

end Sys2Proof.Machine
end

