-- ==== Sys2Proof/Laws/State.lean ====
section
/-! SUPPORT. Sys2Proof/Laws/State.lean: one lemma per field per update of State, each true by unfolding the update. -/

namespace Sys2Proof.Machine


/-! ### setReady -/

@[simp] theorem State.setReady_params (b : Bool) (s : State) : (s.setReady b).params = s.params := rfl
@[simp] theorem State.setReady_ready (b : Bool) (s : State) : (s.setReady b).ready = b := rfl
@[simp] theorem State.setReady_stepIndex (b : Bool) (s : State) : (s.setReady b).stepIndex = s.stepIndex := rfl
@[simp] theorem State.setReady_throttle (b : Bool) (s : State) : (s.setReady b).throttle = s.throttle := rfl
@[simp] theorem State.setReady_pulsing (b : Bool) (s : State) : (s.setReady b).pulsing = s.pulsing := rfl
@[simp] theorem State.setReady_seqState (b : Bool) (s : State) : (s.setReady b).seqState = s.seqState := rfl
@[simp] theorem State.setReady_cancel (b : Bool) (s : State) : (s.setReady b).cancel = s.cancel := rfl
@[simp] theorem State.setReady_ports (b : Bool) (s : State) : (s.setReady b).ports = s.ports := rfl
@[simp] theorem State.setReady_lastClock (b : Bool) (s : State) : (s.setReady b).lastClock = s.lastClock := rfl
@[simp] theorem State.setReady_faulted (b : Bool) (s : State) : (s.setReady b).faulted = s.faulted := rfl
@[simp] theorem State.setReady_refused (b : Bool) (s : State) : (s.setReady b).refused = s.refused := rfl
@[simp] theorem State.setReady_trace (b : Bool) (s : State) : (s.setReady b).trace = s.trace := rfl
@[simp] theorem State.setReady_cur (b : Bool) (s : State) : (s.setReady b).cur = s.cur := rfl
@[simp] theorem State.setReady_env (b : Bool) (s : State) : (s.setReady b).env = s.env := rfl

/-! ### setStepIndex -/

@[simp] theorem State.setStepIndex_params (k : Fin 4) (s : State) : (s.setStepIndex k).params = s.params := rfl
@[simp] theorem State.setStepIndex_ready (k : Fin 4) (s : State) : (s.setStepIndex k).ready = s.ready := rfl
@[simp] theorem State.setStepIndex_stepIndex (k : Fin 4) (s : State) : (s.setStepIndex k).stepIndex = k := rfl
@[simp] theorem State.setStepIndex_throttle (k : Fin 4) (s : State) : (s.setStepIndex k).throttle = s.throttle := rfl
@[simp] theorem State.setStepIndex_pulsing (k : Fin 4) (s : State) : (s.setStepIndex k).pulsing = s.pulsing := rfl
@[simp] theorem State.setStepIndex_seqState (k : Fin 4) (s : State) : (s.setStepIndex k).seqState = s.seqState := rfl
@[simp] theorem State.setStepIndex_cancel (k : Fin 4) (s : State) : (s.setStepIndex k).cancel = s.cancel := rfl
@[simp] theorem State.setStepIndex_ports (k : Fin 4) (s : State) : (s.setStepIndex k).ports = s.ports := rfl
@[simp] theorem State.setStepIndex_lastClock (k : Fin 4) (s : State) : (s.setStepIndex k).lastClock = s.lastClock := rfl
@[simp] theorem State.setStepIndex_faulted (k : Fin 4) (s : State) : (s.setStepIndex k).faulted = s.faulted := rfl
@[simp] theorem State.setStepIndex_refused (k : Fin 4) (s : State) : (s.setStepIndex k).refused = s.refused := rfl
@[simp] theorem State.setStepIndex_trace (k : Fin 4) (s : State) : (s.setStepIndex k).trace = s.trace := rfl
@[simp] theorem State.setStepIndex_cur (k : Fin 4) (s : State) : (s.setStepIndex k).cur = s.cur := rfl
@[simp] theorem State.setStepIndex_env (k : Fin 4) (s : State) : (s.setStepIndex k).env = s.env := rfl

/-! ### setThrottle -/

@[simp] theorem State.setThrottle_params (x : Rat) (s : State) : (s.setThrottle x).params = s.params := rfl
@[simp] theorem State.setThrottle_ready (x : Rat) (s : State) : (s.setThrottle x).ready = s.ready := rfl
@[simp] theorem State.setThrottle_stepIndex (x : Rat) (s : State) : (s.setThrottle x).stepIndex = s.stepIndex := rfl
@[simp] theorem State.setThrottle_throttle (x : Rat) (s : State) : (s.setThrottle x).throttle = x := rfl
@[simp] theorem State.setThrottle_pulsing (x : Rat) (s : State) : (s.setThrottle x).pulsing = s.pulsing := rfl
@[simp] theorem State.setThrottle_seqState (x : Rat) (s : State) : (s.setThrottle x).seqState = s.seqState := rfl
@[simp] theorem State.setThrottle_cancel (x : Rat) (s : State) : (s.setThrottle x).cancel = s.cancel := rfl
@[simp] theorem State.setThrottle_ports (x : Rat) (s : State) : (s.setThrottle x).ports = s.ports := rfl
@[simp] theorem State.setThrottle_lastClock (x : Rat) (s : State) : (s.setThrottle x).lastClock = s.lastClock := rfl
@[simp] theorem State.setThrottle_faulted (x : Rat) (s : State) : (s.setThrottle x).faulted = s.faulted := rfl
@[simp] theorem State.setThrottle_refused (x : Rat) (s : State) : (s.setThrottle x).refused = s.refused := rfl
@[simp] theorem State.setThrottle_trace (x : Rat) (s : State) : (s.setThrottle x).trace = s.trace := rfl
@[simp] theorem State.setThrottle_cur (x : Rat) (s : State) : (s.setThrottle x).cur = s.cur := rfl
@[simp] theorem State.setThrottle_env (x : Rat) (s : State) : (s.setThrottle x).env = s.env := rfl

/-! ### setPulsing -/

@[simp] theorem State.setPulsing_params (b : Bool) (s : State) : (s.setPulsing b).params = s.params := rfl
@[simp] theorem State.setPulsing_ready (b : Bool) (s : State) : (s.setPulsing b).ready = s.ready := rfl
@[simp] theorem State.setPulsing_stepIndex (b : Bool) (s : State) : (s.setPulsing b).stepIndex = s.stepIndex := rfl
@[simp] theorem State.setPulsing_throttle (b : Bool) (s : State) : (s.setPulsing b).throttle = s.throttle := rfl
@[simp] theorem State.setPulsing_pulsing (b : Bool) (s : State) : (s.setPulsing b).pulsing = b := rfl
@[simp] theorem State.setPulsing_seqState (b : Bool) (s : State) : (s.setPulsing b).seqState = s.seqState := rfl
@[simp] theorem State.setPulsing_cancel (b : Bool) (s : State) : (s.setPulsing b).cancel = s.cancel := rfl
@[simp] theorem State.setPulsing_ports (b : Bool) (s : State) : (s.setPulsing b).ports = s.ports := rfl
@[simp] theorem State.setPulsing_lastClock (b : Bool) (s : State) : (s.setPulsing b).lastClock = s.lastClock := rfl
@[simp] theorem State.setPulsing_faulted (b : Bool) (s : State) : (s.setPulsing b).faulted = s.faulted := rfl
@[simp] theorem State.setPulsing_refused (b : Bool) (s : State) : (s.setPulsing b).refused = s.refused := rfl
@[simp] theorem State.setPulsing_trace (b : Bool) (s : State) : (s.setPulsing b).trace = s.trace := rfl
@[simp] theorem State.setPulsing_cur (b : Bool) (s : State) : (s.setPulsing b).cur = s.cur := rfl
@[simp] theorem State.setPulsing_env (b : Bool) (s : State) : (s.setPulsing b).env = s.env := rfl

/-! ### setSeqState -/

@[simp] theorem State.setSeqState_params (q : SeqState) (s : State) : (s.setSeqState q).params = s.params := rfl
@[simp] theorem State.setSeqState_ready (q : SeqState) (s : State) : (s.setSeqState q).ready = s.ready := rfl
@[simp] theorem State.setSeqState_stepIndex (q : SeqState) (s : State) : (s.setSeqState q).stepIndex = s.stepIndex := rfl
@[simp] theorem State.setSeqState_throttle (q : SeqState) (s : State) : (s.setSeqState q).throttle = s.throttle := rfl
@[simp] theorem State.setSeqState_pulsing (q : SeqState) (s : State) : (s.setSeqState q).pulsing = s.pulsing := rfl
@[simp] theorem State.setSeqState_seqState (q : SeqState) (s : State) : (s.setSeqState q).seqState = q := rfl
@[simp] theorem State.setSeqState_cancel (q : SeqState) (s : State) : (s.setSeqState q).cancel = s.cancel := rfl
@[simp] theorem State.setSeqState_ports (q : SeqState) (s : State) : (s.setSeqState q).ports = s.ports := rfl
@[simp] theorem State.setSeqState_lastClock (q : SeqState) (s : State) : (s.setSeqState q).lastClock = s.lastClock := rfl
@[simp] theorem State.setSeqState_faulted (q : SeqState) (s : State) : (s.setSeqState q).faulted = s.faulted := rfl
@[simp] theorem State.setSeqState_refused (q : SeqState) (s : State) : (s.setSeqState q).refused = s.refused := rfl
@[simp] theorem State.setSeqState_trace (q : SeqState) (s : State) : (s.setSeqState q).trace = s.trace := rfl
@[simp] theorem State.setSeqState_cur (q : SeqState) (s : State) : (s.setSeqState q).cur = s.cur := rfl
@[simp] theorem State.setSeqState_env (q : SeqState) (s : State) : (s.setSeqState q).env = s.env := rfl

/-! ### setCancel -/

@[simp] theorem State.setCancel_params (b : Bool) (s : State) : (s.setCancel b).params = s.params := rfl
@[simp] theorem State.setCancel_ready (b : Bool) (s : State) : (s.setCancel b).ready = s.ready := rfl
@[simp] theorem State.setCancel_stepIndex (b : Bool) (s : State) : (s.setCancel b).stepIndex = s.stepIndex := rfl
@[simp] theorem State.setCancel_throttle (b : Bool) (s : State) : (s.setCancel b).throttle = s.throttle := rfl
@[simp] theorem State.setCancel_pulsing (b : Bool) (s : State) : (s.setCancel b).pulsing = s.pulsing := rfl
@[simp] theorem State.setCancel_seqState (b : Bool) (s : State) : (s.setCancel b).seqState = s.seqState := rfl
@[simp] theorem State.setCancel_cancel (b : Bool) (s : State) : (s.setCancel b).cancel = b := rfl
@[simp] theorem State.setCancel_ports (b : Bool) (s : State) : (s.setCancel b).ports = s.ports := rfl
@[simp] theorem State.setCancel_lastClock (b : Bool) (s : State) : (s.setCancel b).lastClock = s.lastClock := rfl
@[simp] theorem State.setCancel_faulted (b : Bool) (s : State) : (s.setCancel b).faulted = s.faulted := rfl
@[simp] theorem State.setCancel_refused (b : Bool) (s : State) : (s.setCancel b).refused = s.refused := rfl
@[simp] theorem State.setCancel_trace (b : Bool) (s : State) : (s.setCancel b).trace = s.trace := rfl
@[simp] theorem State.setCancel_cur (b : Bool) (s : State) : (s.setCancel b).cur = s.cur := rfl
@[simp] theorem State.setCancel_env (b : Bool) (s : State) : (s.setCancel b).env = s.env := rfl

/-! ### setPorts -/

@[simp] theorem State.setPorts_params (ps : List Port) (s : State) : (s.setPorts ps).params = s.params := rfl
@[simp] theorem State.setPorts_ready (ps : List Port) (s : State) : (s.setPorts ps).ready = s.ready := rfl
@[simp] theorem State.setPorts_stepIndex (ps : List Port) (s : State) : (s.setPorts ps).stepIndex = s.stepIndex := rfl
@[simp] theorem State.setPorts_throttle (ps : List Port) (s : State) : (s.setPorts ps).throttle = s.throttle := rfl
@[simp] theorem State.setPorts_pulsing (ps : List Port) (s : State) : (s.setPorts ps).pulsing = s.pulsing := rfl
@[simp] theorem State.setPorts_seqState (ps : List Port) (s : State) : (s.setPorts ps).seqState = s.seqState := rfl
@[simp] theorem State.setPorts_cancel (ps : List Port) (s : State) : (s.setPorts ps).cancel = s.cancel := rfl
@[simp] theorem State.setPorts_ports (ps : List Port) (s : State) : (s.setPorts ps).ports = ps := rfl
@[simp] theorem State.setPorts_lastClock (ps : List Port) (s : State) : (s.setPorts ps).lastClock = s.lastClock := rfl
@[simp] theorem State.setPorts_faulted (ps : List Port) (s : State) : (s.setPorts ps).faulted = s.faulted := rfl
@[simp] theorem State.setPorts_refused (ps : List Port) (s : State) : (s.setPorts ps).refused = s.refused := rfl
@[simp] theorem State.setPorts_trace (ps : List Port) (s : State) : (s.setPorts ps).trace = s.trace := rfl
@[simp] theorem State.setPorts_cur (ps : List Port) (s : State) : (s.setPorts ps).cur = s.cur := rfl
@[simp] theorem State.setPorts_env (ps : List Port) (s : State) : (s.setPorts ps).env = s.env := rfl

/-! ### setLastClock -/

@[simp] theorem State.setLastClock_params (t : Rat) (s : State) : (s.setLastClock t).params = s.params := rfl
@[simp] theorem State.setLastClock_ready (t : Rat) (s : State) : (s.setLastClock t).ready = s.ready := rfl
@[simp] theorem State.setLastClock_stepIndex (t : Rat) (s : State) : (s.setLastClock t).stepIndex = s.stepIndex := rfl
@[simp] theorem State.setLastClock_throttle (t : Rat) (s : State) : (s.setLastClock t).throttle = s.throttle := rfl
@[simp] theorem State.setLastClock_pulsing (t : Rat) (s : State) : (s.setLastClock t).pulsing = s.pulsing := rfl
@[simp] theorem State.setLastClock_seqState (t : Rat) (s : State) : (s.setLastClock t).seqState = s.seqState := rfl
@[simp] theorem State.setLastClock_cancel (t : Rat) (s : State) : (s.setLastClock t).cancel = s.cancel := rfl
@[simp] theorem State.setLastClock_ports (t : Rat) (s : State) : (s.setLastClock t).ports = s.ports := rfl
@[simp] theorem State.setLastClock_lastClock (t : Rat) (s : State) : (s.setLastClock t).lastClock = t := rfl
@[simp] theorem State.setLastClock_faulted (t : Rat) (s : State) : (s.setLastClock t).faulted = s.faulted := rfl
@[simp] theorem State.setLastClock_refused (t : Rat) (s : State) : (s.setLastClock t).refused = s.refused := rfl
@[simp] theorem State.setLastClock_trace (t : Rat) (s : State) : (s.setLastClock t).trace = s.trace := rfl
@[simp] theorem State.setLastClock_cur (t : Rat) (s : State) : (s.setLastClock t).cur = s.cur := rfl
@[simp] theorem State.setLastClock_env (t : Rat) (s : State) : (s.setLastClock t).env = s.env := rfl

/-! ### setFaulted -/

@[simp] theorem State.setFaulted_params (f : FaultSet) (s : State) : (s.setFaulted f).params = s.params := rfl
@[simp] theorem State.setFaulted_ready (f : FaultSet) (s : State) : (s.setFaulted f).ready = s.ready := rfl
@[simp] theorem State.setFaulted_stepIndex (f : FaultSet) (s : State) : (s.setFaulted f).stepIndex = s.stepIndex := rfl
@[simp] theorem State.setFaulted_throttle (f : FaultSet) (s : State) : (s.setFaulted f).throttle = s.throttle := rfl
@[simp] theorem State.setFaulted_pulsing (f : FaultSet) (s : State) : (s.setFaulted f).pulsing = s.pulsing := rfl
@[simp] theorem State.setFaulted_seqState (f : FaultSet) (s : State) : (s.setFaulted f).seqState = s.seqState := rfl
@[simp] theorem State.setFaulted_cancel (f : FaultSet) (s : State) : (s.setFaulted f).cancel = s.cancel := rfl
@[simp] theorem State.setFaulted_ports (f : FaultSet) (s : State) : (s.setFaulted f).ports = s.ports := rfl
@[simp] theorem State.setFaulted_lastClock (f : FaultSet) (s : State) : (s.setFaulted f).lastClock = s.lastClock := rfl
@[simp] theorem State.setFaulted_faulted (f : FaultSet) (s : State) : (s.setFaulted f).faulted = f := rfl
@[simp] theorem State.setFaulted_refused (f : FaultSet) (s : State) : (s.setFaulted f).refused = s.refused := rfl
@[simp] theorem State.setFaulted_trace (f : FaultSet) (s : State) : (s.setFaulted f).trace = s.trace := rfl
@[simp] theorem State.setFaulted_cur (f : FaultSet) (s : State) : (s.setFaulted f).cur = s.cur := rfl
@[simp] theorem State.setFaulted_env (f : FaultSet) (s : State) : (s.setFaulted f).env = s.env := rfl

/-! ### setTrace -/

@[simp] theorem State.setTrace_params (es : List Event) (s : State) : (s.setTrace es).params = s.params := rfl
@[simp] theorem State.setTrace_ready (es : List Event) (s : State) : (s.setTrace es).ready = s.ready := rfl
@[simp] theorem State.setTrace_stepIndex (es : List Event) (s : State) : (s.setTrace es).stepIndex = s.stepIndex := rfl
@[simp] theorem State.setTrace_throttle (es : List Event) (s : State) : (s.setTrace es).throttle = s.throttle := rfl
@[simp] theorem State.setTrace_pulsing (es : List Event) (s : State) : (s.setTrace es).pulsing = s.pulsing := rfl
@[simp] theorem State.setTrace_seqState (es : List Event) (s : State) : (s.setTrace es).seqState = s.seqState := rfl
@[simp] theorem State.setTrace_cancel (es : List Event) (s : State) : (s.setTrace es).cancel = s.cancel := rfl
@[simp] theorem State.setTrace_ports (es : List Event) (s : State) : (s.setTrace es).ports = s.ports := rfl
@[simp] theorem State.setTrace_lastClock (es : List Event) (s : State) : (s.setTrace es).lastClock = s.lastClock := rfl
@[simp] theorem State.setTrace_faulted (es : List Event) (s : State) : (s.setTrace es).faulted = s.faulted := rfl
@[simp] theorem State.setTrace_refused (es : List Event) (s : State) : (s.setTrace es).refused = s.refused := rfl
@[simp] theorem State.setTrace_trace (es : List Event) (s : State) : (s.setTrace es).trace = es := rfl
@[simp] theorem State.setTrace_cur (es : List Event) (s : State) : (s.setTrace es).cur = s.cur := rfl
@[simp] theorem State.setTrace_env (es : List Event) (s : State) : (s.setTrace es).env = s.env := rfl

/-! ### setCur -/

@[simp] theorem State.setCur_params (p : Nat) (s : State) : (s.setCur p).params = s.params := rfl
@[simp] theorem State.setCur_ready (p : Nat) (s : State) : (s.setCur p).ready = s.ready := rfl
@[simp] theorem State.setCur_stepIndex (p : Nat) (s : State) : (s.setCur p).stepIndex = s.stepIndex := rfl
@[simp] theorem State.setCur_throttle (p : Nat) (s : State) : (s.setCur p).throttle = s.throttle := rfl
@[simp] theorem State.setCur_pulsing (p : Nat) (s : State) : (s.setCur p).pulsing = s.pulsing := rfl
@[simp] theorem State.setCur_seqState (p : Nat) (s : State) : (s.setCur p).seqState = s.seqState := rfl
@[simp] theorem State.setCur_cancel (p : Nat) (s : State) : (s.setCur p).cancel = s.cancel := rfl
@[simp] theorem State.setCur_ports (p : Nat) (s : State) : (s.setCur p).ports = s.ports := rfl
@[simp] theorem State.setCur_lastClock (p : Nat) (s : State) : (s.setCur p).lastClock = s.lastClock := rfl
@[simp] theorem State.setCur_faulted (p : Nat) (s : State) : (s.setCur p).faulted = s.faulted := rfl
@[simp] theorem State.setCur_refused (p : Nat) (s : State) : (s.setCur p).refused = s.refused := rfl
@[simp] theorem State.setCur_trace (p : Nat) (s : State) : (s.setCur p).trace = s.trace := rfl
@[simp] theorem State.setCur_cur (p : Nat) (s : State) : (s.setCur p).cur = p := rfl
@[simp] theorem State.setCur_env (p : Nat) (s : State) : (s.setCur p).env = s.env := rfl

/-! ### setEnv -/

@[simp] theorem State.setEnv_params (e : Env) (s : State) : (s.setEnv e).params = s.params := rfl
@[simp] theorem State.setEnv_ready (e : Env) (s : State) : (s.setEnv e).ready = s.ready := rfl
@[simp] theorem State.setEnv_stepIndex (e : Env) (s : State) : (s.setEnv e).stepIndex = s.stepIndex := rfl
@[simp] theorem State.setEnv_throttle (e : Env) (s : State) : (s.setEnv e).throttle = s.throttle := rfl
@[simp] theorem State.setEnv_pulsing (e : Env) (s : State) : (s.setEnv e).pulsing = s.pulsing := rfl
@[simp] theorem State.setEnv_seqState (e : Env) (s : State) : (s.setEnv e).seqState = s.seqState := rfl
@[simp] theorem State.setEnv_cancel (e : Env) (s : State) : (s.setEnv e).cancel = s.cancel := rfl
@[simp] theorem State.setEnv_ports (e : Env) (s : State) : (s.setEnv e).ports = s.ports := rfl
@[simp] theorem State.setEnv_lastClock (e : Env) (s : State) : (s.setEnv e).lastClock = s.lastClock := rfl
@[simp] theorem State.setEnv_faulted (e : Env) (s : State) : (s.setEnv e).faulted = s.faulted := rfl
@[simp] theorem State.setEnv_refused (e : Env) (s : State) : (s.setEnv e).refused = s.refused := rfl
@[simp] theorem State.setEnv_trace (e : Env) (s : State) : (s.setEnv e).trace = s.trace := rfl
@[simp] theorem State.setEnv_cur (e : Env) (s : State) : (s.setEnv e).cur = s.cur := rfl
@[simp] theorem State.setEnv_env (e : Env) (s : State) : (s.setEnv e).env = e := rfl

end Sys2Proof.Machine
end

