-- ==== Sys2Proof/Laws/Ops.lean ====
section
/-! SUPPORT. Sys2Proof/Laws/Ops.lean: what each shared operation does to each field of State, and to the contexts; so
that no later proof unfolds an operation. -/

namespace Sys2Proof.Machine


/-! ### modPortAt -/

@[simp] theorem State.modPortAt_params (p : Nat) (f : Port → Port) (s : State) : (s.modPortAt p f).params = s.params := rfl
@[simp] theorem State.modPortAt_ready (p : Nat) (f : Port → Port) (s : State) : (s.modPortAt p f).ready = s.ready := rfl
@[simp] theorem State.modPortAt_stepIndex (p : Nat) (f : Port → Port) (s : State) : (s.modPortAt p f).stepIndex = s.stepIndex := rfl
@[simp] theorem State.modPortAt_throttle (p : Nat) (f : Port → Port) (s : State) : (s.modPortAt p f).throttle = s.throttle := rfl
@[simp] theorem State.modPortAt_pulsing (p : Nat) (f : Port → Port) (s : State) : (s.modPortAt p f).pulsing = s.pulsing := rfl
@[simp] theorem State.modPortAt_seqState (p : Nat) (f : Port → Port) (s : State) : (s.modPortAt p f).seqState = s.seqState := rfl
@[simp] theorem State.modPortAt_cancel (p : Nat) (f : Port → Port) (s : State) : (s.modPortAt p f).cancel = s.cancel := rfl
@[simp] theorem State.modPortAt_ports (p : Nat) (f : Port → Port) (s : State) : (s.modPortAt p f).ports = s.ports.modify p f := rfl
@[simp] theorem State.modPortAt_lastClock (p : Nat) (f : Port → Port) (s : State) : (s.modPortAt p f).lastClock = s.lastClock := rfl
@[simp] theorem State.modPortAt_faulted (p : Nat) (f : Port → Port) (s : State) : (s.modPortAt p f).faulted = s.faulted := rfl
@[simp] theorem State.modPortAt_refused (p : Nat) (f : Port → Port) (s : State) : (s.modPortAt p f).refused = s.refused := rfl
@[simp] theorem State.modPortAt_trace (p : Nat) (f : Port → Port) (s : State) : (s.modPortAt p f).trace = s.trace := rfl
@[simp] theorem State.modPortAt_cur (p : Nat) (f : Port → Port) (s : State) : (s.modPortAt p f).cur = s.cur := rfl
@[simp] theorem State.modPortAt_env (p : Nat) (f : Port → Port) (s : State) : (s.modPortAt p f).env = s.env := rfl

/-! ### modCtx -/

@[simp] theorem State.modCtx_params (f : Ctx → Ctx) (s : State) : (s.modCtx f).params = s.params := rfl
@[simp] theorem State.modCtx_ready (f : Ctx → Ctx) (s : State) : (s.modCtx f).ready = s.ready := rfl
@[simp] theorem State.modCtx_stepIndex (f : Ctx → Ctx) (s : State) : (s.modCtx f).stepIndex = s.stepIndex := rfl
@[simp] theorem State.modCtx_throttle (f : Ctx → Ctx) (s : State) : (s.modCtx f).throttle = s.throttle := rfl
@[simp] theorem State.modCtx_pulsing (f : Ctx → Ctx) (s : State) : (s.modCtx f).pulsing = s.pulsing := rfl
@[simp] theorem State.modCtx_seqState (f : Ctx → Ctx) (s : State) : (s.modCtx f).seqState = s.seqState := rfl
@[simp] theorem State.modCtx_cancel (f : Ctx → Ctx) (s : State) : (s.modCtx f).cancel = s.cancel := rfl
@[simp] theorem State.modCtx_ports (f : Ctx → Ctx) (s : State) : (s.modCtx f).ports = s.ports.modify s.cur fun q => { q with ctx := q.ctx.map f } := rfl
@[simp] theorem State.modCtx_lastClock (f : Ctx → Ctx) (s : State) : (s.modCtx f).lastClock = s.lastClock := rfl
@[simp] theorem State.modCtx_faulted (f : Ctx → Ctx) (s : State) : (s.modCtx f).faulted = s.faulted := rfl
@[simp] theorem State.modCtx_refused (f : Ctx → Ctx) (s : State) : (s.modCtx f).refused = s.refused := rfl
@[simp] theorem State.modCtx_trace (f : Ctx → Ctx) (s : State) : (s.modCtx f).trace = s.trace := rfl
@[simp] theorem State.modCtx_cur (f : Ctx → Ctx) (s : State) : (s.modCtx f).cur = s.cur := rfl
@[simp] theorem State.modCtx_env (f : Ctx → Ctx) (s : State) : (s.modCtx f).env = s.env := rfl

/-! ### emit -/

@[simp] theorem State.emit_params (e : Event) (s : State) : (s.emit e).params = s.params := rfl
@[simp] theorem State.emit_ready (e : Event) (s : State) : (s.emit e).ready = s.ready := rfl
@[simp] theorem State.emit_stepIndex (e : Event) (s : State) : (s.emit e).stepIndex = s.stepIndex := rfl
@[simp] theorem State.emit_throttle (e : Event) (s : State) : (s.emit e).throttle = s.throttle := rfl
@[simp] theorem State.emit_pulsing (e : Event) (s : State) : (s.emit e).pulsing = s.pulsing := rfl
@[simp] theorem State.emit_seqState (e : Event) (s : State) : (s.emit e).seqState = s.seqState := rfl
@[simp] theorem State.emit_cancel (e : Event) (s : State) : (s.emit e).cancel = s.cancel := rfl
@[simp] theorem State.emit_ports (e : Event) (s : State) : (s.emit e).ports = s.ports := rfl
@[simp] theorem State.emit_lastClock (e : Event) (s : State) : (s.emit e).lastClock = s.lastClock := rfl
@[simp] theorem State.emit_faulted (e : Event) (s : State) : (s.emit e).faulted = s.faulted := rfl
@[simp] theorem State.emit_refused (e : Event) (s : State) : (s.emit e).refused = s.refused := rfl
@[simp] theorem State.emit_trace (e : Event) (s : State) : (s.emit e).trace = s.trace ++ [e] := rfl
@[simp] theorem State.emit_cur (e : Event) (s : State) : (s.emit e).cur = s.cur := rfl
@[simp] theorem State.emit_env (e : Event) (s : State) : (s.emit e).env = s.env := rfl

/-! ### readClockFrom -/

@[simp] theorem State.readClockFrom_params (b : Rat) (s : State) : (s.readClockFrom b).params = s.params := by simp [State.readClockFrom]
@[simp] theorem State.readClockFrom_ready (b : Rat) (s : State) : (s.readClockFrom b).ready = s.ready := by simp [State.readClockFrom]
@[simp] theorem State.readClockFrom_stepIndex (b : Rat) (s : State) : (s.readClockFrom b).stepIndex = s.stepIndex := by simp [State.readClockFrom]
@[simp] theorem State.readClockFrom_throttle (b : Rat) (s : State) : (s.readClockFrom b).throttle = s.throttle := by simp [State.readClockFrom]
@[simp] theorem State.readClockFrom_pulsing (b : Rat) (s : State) : (s.readClockFrom b).pulsing = s.pulsing := by simp [State.readClockFrom]
@[simp] theorem State.readClockFrom_seqState (b : Rat) (s : State) : (s.readClockFrom b).seqState = s.seqState := by simp [State.readClockFrom]
@[simp] theorem State.readClockFrom_cancel (b : Rat) (s : State) : (s.readClockFrom b).cancel = s.cancel := by simp [State.readClockFrom]
@[simp] theorem State.readClockFrom_ports (b : Rat) (s : State) : (s.readClockFrom b).ports = s.ports := by simp [State.readClockFrom]
@[simp] theorem State.readClockFrom_lastClock (b : Rat) (s : State) : (s.readClockFrom b).lastClock = s.clockValue b := by simp [State.readClockFrom]
@[simp] theorem State.readClockFrom_faulted (b : Rat) (s : State) : (s.readClockFrom b).faulted = s.faulted := by simp [State.readClockFrom]
@[simp] theorem State.readClockFrom_refused (b : Rat) (s : State) : (s.readClockFrom b).refused = s.refused := by simp [State.readClockFrom]
@[simp] theorem State.readClockFrom_trace (b : Rat) (s : State) : (s.readClockFrom b).trace = s.trace ++ [.clock s.cur (s.clockValue b)] := by simp [State.readClockFrom]
@[simp] theorem State.readClockFrom_cur (b : Rat) (s : State) : (s.readClockFrom b).cur = s.cur := by simp [State.readClockFrom]
@[simp] theorem State.readClockFrom_env (b : Rat) (s : State) : (s.readClockFrom b).env = s.env.dropClock := by simp [State.readClockFrom]

/-! ### readClock -/

@[simp] theorem State.readClock_params (s : State) : (s.readClock).params = s.params := by simp [State.readClock]
@[simp] theorem State.readClock_ready (s : State) : (s.readClock).ready = s.ready := by simp [State.readClock]
@[simp] theorem State.readClock_stepIndex (s : State) : (s.readClock).stepIndex = s.stepIndex := by simp [State.readClock]
@[simp] theorem State.readClock_throttle (s : State) : (s.readClock).throttle = s.throttle := by simp [State.readClock]
@[simp] theorem State.readClock_pulsing (s : State) : (s.readClock).pulsing = s.pulsing := by simp [State.readClock]
@[simp] theorem State.readClock_seqState (s : State) : (s.readClock).seqState = s.seqState := by simp [State.readClock]
@[simp] theorem State.readClock_cancel (s : State) : (s.readClock).cancel = s.cancel := by simp [State.readClock]
@[simp] theorem State.readClock_ports (s : State) : (s.readClock).ports = s.ports := by simp [State.readClock]
@[simp] theorem State.readClock_lastClock (s : State) : (s.readClock).lastClock = s.clockValue 0 := by simp [State.readClock]
@[simp] theorem State.readClock_faulted (s : State) : (s.readClock).faulted = s.faulted := by simp [State.readClock]
@[simp] theorem State.readClock_refused (s : State) : (s.readClock).refused = s.refused := by simp [State.readClock]
@[simp] theorem State.readClock_trace (s : State) : (s.readClock).trace = s.trace ++ [.clock s.cur (s.clockValue 0)] := by simp [State.readClock]
@[simp] theorem State.readClock_cur (s : State) : (s.readClock).cur = s.cur := by simp [State.readClock]
@[simp] theorem State.readClock_env (s : State) : (s.readClock).env = s.env.dropClock := by simp [State.readClock]

/-! ### waitUntil -/

@[simp] theorem State.waitUntil_params (d : Rat) (s : State) : (s.waitUntil d).params = s.params := by simp [State.waitUntil]
@[simp] theorem State.waitUntil_ready (d : Rat) (s : State) : (s.waitUntil d).ready = s.ready := by simp [State.waitUntil]
@[simp] theorem State.waitUntil_stepIndex (d : Rat) (s : State) : (s.waitUntil d).stepIndex = s.stepIndex := by simp [State.waitUntil]
@[simp] theorem State.waitUntil_throttle (d : Rat) (s : State) : (s.waitUntil d).throttle = s.throttle := by simp [State.waitUntil]
@[simp] theorem State.waitUntil_pulsing (d : Rat) (s : State) : (s.waitUntil d).pulsing = s.pulsing := by simp [State.waitUntil]
@[simp] theorem State.waitUntil_seqState (d : Rat) (s : State) : (s.waitUntil d).seqState = s.seqState := by simp [State.waitUntil]
@[simp] theorem State.waitUntil_cancel (d : Rat) (s : State) : (s.waitUntil d).cancel = s.cancel := by simp [State.waitUntil]
@[simp] theorem State.waitUntil_lastClock (d : Rat) (s : State) : (s.waitUntil d).lastClock = s.lastClock := by simp [State.waitUntil]
@[simp] theorem State.waitUntil_faulted (d : Rat) (s : State) : (s.waitUntil d).faulted = s.faulted := by simp [State.waitUntil]
@[simp] theorem State.waitUntil_refused (d : Rat) (s : State) : (s.waitUntil d).refused = s.refused := by simp [State.waitUntil]
@[simp] theorem State.waitUntil_trace (d : Rat) (s : State) : (s.waitUntil d).trace = s.trace ++ [.wait s.cur d] := by simp [State.waitUntil]
@[simp] theorem State.waitUntil_cur (d : Rat) (s : State) : (s.waitUntil d).cur = s.cur := by simp [State.waitUntil]
@[simp] theorem State.waitUntil_env (d : Rat) (s : State) : (s.waitUntil d).env = s.env := by simp [State.waitUntil]

/-! ### waitFor -/

@[simp] theorem State.waitFor_params (d : Rat) (s : State) : (s.waitFor d).params = s.params := by simp [State.waitFor]
@[simp] theorem State.waitFor_ready (d : Rat) (s : State) : (s.waitFor d).ready = s.ready := by simp [State.waitFor]
@[simp] theorem State.waitFor_stepIndex (d : Rat) (s : State) : (s.waitFor d).stepIndex = s.stepIndex := by simp [State.waitFor]
@[simp] theorem State.waitFor_throttle (d : Rat) (s : State) : (s.waitFor d).throttle = s.throttle := by simp [State.waitFor]
@[simp] theorem State.waitFor_pulsing (d : Rat) (s : State) : (s.waitFor d).pulsing = s.pulsing := by simp [State.waitFor]
@[simp] theorem State.waitFor_seqState (d : Rat) (s : State) : (s.waitFor d).seqState = s.seqState := by simp [State.waitFor]
@[simp] theorem State.waitFor_cancel (d : Rat) (s : State) : (s.waitFor d).cancel = s.cancel := by simp [State.waitFor]
@[simp] theorem State.waitFor_lastClock (d : Rat) (s : State) : (s.waitFor d).lastClock = s.clockValue 0 := by simp [State.waitFor]
@[simp] theorem State.waitFor_faulted (d : Rat) (s : State) : (s.waitFor d).faulted = s.faulted := by simp [State.waitFor]
@[simp] theorem State.waitFor_refused (d : Rat) (s : State) : (s.waitFor d).refused = s.refused := by simp [State.waitFor]
@[simp] theorem State.waitFor_trace (d : Rat) (s : State) : (s.waitFor d).trace = s.trace ++ [.clock s.cur (s.clockValue 0)] ++ [.wait s.cur (s.clockValue 0 + d)] := by simp [State.waitFor]
@[simp] theorem State.waitFor_cur (d : Rat) (s : State) : (s.waitFor d).cur = s.cur := by simp [State.waitFor]
@[simp] theorem State.waitFor_env (d : Rat) (s : State) : (s.waitFor d).env = s.env.dropClock := by simp [State.waitFor]

/-! ### resume -/

@[simp] theorem State.resume_params (c : Ctx) (s : State) : (s.resume c).params = s.params := by simp [State.resume]
@[simp] theorem State.resume_ready (c : Ctx) (s : State) : (s.resume c).ready = s.ready := by simp [State.resume]
@[simp] theorem State.resume_stepIndex (c : Ctx) (s : State) : (s.resume c).stepIndex = s.stepIndex := by simp [State.resume]
@[simp] theorem State.resume_throttle (c : Ctx) (s : State) : (s.resume c).throttle = s.throttle := by simp [State.resume]
@[simp] theorem State.resume_pulsing (c : Ctx) (s : State) : (s.resume c).pulsing = s.pulsing := by simp [State.resume]
@[simp] theorem State.resume_seqState (c : Ctx) (s : State) : (s.resume c).seqState = s.seqState := by simp [State.resume]
@[simp] theorem State.resume_cancel (c : Ctx) (s : State) : (s.resume c).cancel = s.cancel := by simp [State.resume]
@[simp] theorem State.resume_lastClock (c : Ctx) (s : State) : (s.resume c).lastClock = s.clockValue (c.deadline.getD 0) := by simp [State.resume]
@[simp] theorem State.resume_faulted (c : Ctx) (s : State) : (s.resume c).faulted = s.faulted := by simp [State.resume]
@[simp] theorem State.resume_refused (c : Ctx) (s : State) : (s.resume c).refused = s.refused := by simp [State.resume]
@[simp] theorem State.resume_trace (c : Ctx) (s : State) : (s.resume c).trace = s.trace ++ [.clock s.cur (s.clockValue (c.deadline.getD 0))] := by simp [State.resume]
@[simp] theorem State.resume_cur (c : Ctx) (s : State) : (s.resume c).cur = s.cur := by simp [State.resume]
@[simp] theorem State.resume_env (c : Ctx) (s : State) : (s.resume c).env = s.env.dropClock := by simp [State.resume]

/-! ### busWrite -/

@[simp] theorem State.busWrite_params (r v : Byte) (s : State) : (s.busWrite r v).params = s.params := by simp [State.busWrite]
@[simp] theorem State.busWrite_ready (r v : Byte) (s : State) : (s.busWrite r v).ready = s.ready := by simp [State.busWrite]
@[simp] theorem State.busWrite_stepIndex (r v : Byte) (s : State) : (s.busWrite r v).stepIndex = s.stepIndex := by simp [State.busWrite]
@[simp] theorem State.busWrite_throttle (r v : Byte) (s : State) : (s.busWrite r v).throttle = s.throttle := by simp [State.busWrite]
@[simp] theorem State.busWrite_pulsing (r v : Byte) (s : State) : (s.busWrite r v).pulsing = s.pulsing := by simp [State.busWrite]
@[simp] theorem State.busWrite_seqState (r v : Byte) (s : State) : (s.busWrite r v).seqState = s.seqState := by simp [State.busWrite]
@[simp] theorem State.busWrite_cancel (r v : Byte) (s : State) : (s.busWrite r v).cancel = s.cancel := by simp [State.busWrite]
@[simp] theorem State.busWrite_lastClock (r v : Byte) (s : State) : (s.busWrite r v).lastClock = s.lastClock := by simp [State.busWrite]
@[simp] theorem State.busWrite_faulted (r v : Byte) (s : State) : (s.busWrite r v).faulted = s.faulted := by simp [State.busWrite]
@[simp] theorem State.busWrite_refused (r v : Byte) (s : State) : (s.busWrite r v).refused = s.refused := by simp [State.busWrite]
@[simp] theorem State.busWrite_trace (r v : Byte) (s : State) : (s.busWrite r v).trace = s.trace ++ [.write s.cur s.params.dev r v s.env.nextAck] := by simp [State.busWrite]
@[simp] theorem State.busWrite_cur (r v : Byte) (s : State) : (s.busWrite r v).cur = s.cur := by simp [State.busWrite]
@[simp] theorem State.busWrite_env (r v : Byte) (s : State) : (s.busWrite r v).env = s.env.dropAck := by simp [State.busWrite]

/-! ### busRead -/

@[simp] theorem State.busRead_params (r : Byte) (s : State) : (s.busRead r).params = s.params := by simp [State.busRead]
@[simp] theorem State.busRead_ready (r : Byte) (s : State) : (s.busRead r).ready = s.ready := by simp [State.busRead]
@[simp] theorem State.busRead_stepIndex (r : Byte) (s : State) : (s.busRead r).stepIndex = s.stepIndex := by simp [State.busRead]
@[simp] theorem State.busRead_throttle (r : Byte) (s : State) : (s.busRead r).throttle = s.throttle := by simp [State.busRead]
@[simp] theorem State.busRead_pulsing (r : Byte) (s : State) : (s.busRead r).pulsing = s.pulsing := by simp [State.busRead]
@[simp] theorem State.busRead_seqState (r : Byte) (s : State) : (s.busRead r).seqState = s.seqState := by simp [State.busRead]
@[simp] theorem State.busRead_cancel (r : Byte) (s : State) : (s.busRead r).cancel = s.cancel := by simp [State.busRead]
@[simp] theorem State.busRead_lastClock (r : Byte) (s : State) : (s.busRead r).lastClock = s.lastClock := by simp [State.busRead]
@[simp] theorem State.busRead_faulted (r : Byte) (s : State) : (s.busRead r).faulted = s.faulted := by simp [State.busRead]
@[simp] theorem State.busRead_refused (r : Byte) (s : State) : (s.busRead r).refused = s.refused := by simp [State.busRead]
@[simp] theorem State.busRead_trace (r : Byte) (s : State) : (s.busRead r).trace = s.trace ++ [.read s.cur s.params.dev r s.env.nextRead] := by simp [State.busRead]
@[simp] theorem State.busRead_cur (r : Byte) (s : State) : (s.busRead r).cur = s.cur := by simp [State.busRead]
@[simp] theorem State.busRead_env (r : Byte) (s : State) : (s.busRead r).env = s.env.dropRead := by simp [State.busRead]

/-! ### busSend -/

@[simp] theorem State.busSend_params (d : DevAddr) (v : Byte) (s : State) : (s.busSend d v).params = s.params := by simp [State.busSend]
@[simp] theorem State.busSend_ready (d : DevAddr) (v : Byte) (s : State) : (s.busSend d v).ready = s.ready := by simp [State.busSend]
@[simp] theorem State.busSend_stepIndex (d : DevAddr) (v : Byte) (s : State) : (s.busSend d v).stepIndex = s.stepIndex := by simp [State.busSend]
@[simp] theorem State.busSend_throttle (d : DevAddr) (v : Byte) (s : State) : (s.busSend d v).throttle = s.throttle := by simp [State.busSend]
@[simp] theorem State.busSend_pulsing (d : DevAddr) (v : Byte) (s : State) : (s.busSend d v).pulsing = s.pulsing := by simp [State.busSend]
@[simp] theorem State.busSend_seqState (d : DevAddr) (v : Byte) (s : State) : (s.busSend d v).seqState = s.seqState := by simp [State.busSend]
@[simp] theorem State.busSend_cancel (d : DevAddr) (v : Byte) (s : State) : (s.busSend d v).cancel = s.cancel := by simp [State.busSend]
@[simp] theorem State.busSend_lastClock (d : DevAddr) (v : Byte) (s : State) : (s.busSend d v).lastClock = s.lastClock := by simp [State.busSend]
@[simp] theorem State.busSend_faulted (d : DevAddr) (v : Byte) (s : State) : (s.busSend d v).faulted = s.faulted := by simp [State.busSend]
@[simp] theorem State.busSend_refused (d : DevAddr) (v : Byte) (s : State) : (s.busSend d v).refused = s.refused := by simp [State.busSend]
@[simp] theorem State.busSend_trace (d : DevAddr) (v : Byte) (s : State) : (s.busSend d v).trace = s.trace ++ [.send s.cur d v s.env.nextAck] := by simp [State.busSend]
@[simp] theorem State.busSend_cur (d : DevAddr) (v : Byte) (s : State) : (s.busSend d v).cur = s.cur := by simp [State.busSend]
@[simp] theorem State.busSend_env (d : DevAddr) (v : Byte) (s : State) : (s.busSend d v).env = s.env.dropAck := by simp [State.busSend]

/-! ### respond -/

@[simp] theorem State.respond_params (q : Status) (d : RespData) (s : State) : (s.respond q d).params = s.params := by simp [State.respond]
@[simp] theorem State.respond_ready (q : Status) (d : RespData) (s : State) : (s.respond q d).ready = s.ready := by simp [State.respond]
@[simp] theorem State.respond_stepIndex (q : Status) (d : RespData) (s : State) : (s.respond q d).stepIndex = s.stepIndex := by simp [State.respond]
@[simp] theorem State.respond_throttle (q : Status) (d : RespData) (s : State) : (s.respond q d).throttle = s.throttle := by simp [State.respond]
@[simp] theorem State.respond_pulsing (q : Status) (d : RespData) (s : State) : (s.respond q d).pulsing = s.pulsing := by simp [State.respond]
@[simp] theorem State.respond_seqState (q : Status) (d : RespData) (s : State) : (s.respond q d).seqState = s.seqState := by simp [State.respond]
@[simp] theorem State.respond_cancel (q : Status) (d : RespData) (s : State) : (s.respond q d).cancel = s.cancel := by simp [State.respond]
@[simp] theorem State.respond_ports (q : Status) (d : RespData) (s : State) : (s.respond q d).ports = s.ports.modify s.cur fun _ => ⟨false, none, some ⟨q, d⟩⟩ := by simp [State.respond]
@[simp] theorem State.respond_lastClock (q : Status) (d : RespData) (s : State) : (s.respond q d).lastClock = s.lastClock := by simp [State.respond]
@[simp] theorem State.respond_faulted (q : Status) (d : RespData) (s : State) : (s.respond q d).faulted = s.faulted := by simp [State.respond]
@[simp] theorem State.respond_refused (q : Status) (d : RespData) (s : State) : (s.respond q d).refused = s.refused := by simp [State.respond]
@[simp] theorem State.respond_trace (q : Status) (d : RespData) (s : State) : (s.respond q d).trace = s.trace ++ [.respond s.cur ⟨q, d⟩] := by simp [State.respond]
@[simp] theorem State.respond_cur (q : Status) (d : RespData) (s : State) : (s.respond q d).cur = s.cur := by simp [State.respond]
@[simp] theorem State.respond_env (q : Status) (d : RespData) (s : State) : (s.respond q d).env = s.env := by simp [State.respond]

/-! ### fault -/

@[simp] theorem State.fault_params (r : FaultReason) (s : State) : (s.fault r).params = s.params := by simp [State.fault]
@[simp] theorem State.fault_ready (r : FaultReason) (s : State) : (s.fault r).ready = s.ready := by simp [State.fault]
@[simp] theorem State.fault_stepIndex (r : FaultReason) (s : State) : (s.fault r).stepIndex = s.stepIndex := by simp [State.fault]
@[simp] theorem State.fault_throttle (r : FaultReason) (s : State) : (s.fault r).throttle = s.throttle := by simp [State.fault]
@[simp] theorem State.fault_pulsing (r : FaultReason) (s : State) : (s.fault r).pulsing = s.pulsing := by simp [State.fault]
@[simp] theorem State.fault_seqState (r : FaultReason) (s : State) : (s.fault r).seqState = s.seqState := by simp [State.fault]
@[simp] theorem State.fault_cancel (r : FaultReason) (s : State) : (s.fault r).cancel = s.cancel := by simp [State.fault]
@[simp] theorem State.fault_ports (r : FaultReason) (s : State) : (s.fault r).ports = s.ports.modify s.cur fun q => { q with ctx := none } := by simp [State.fault]
@[simp] theorem State.fault_lastClock (r : FaultReason) (s : State) : (s.fault r).lastClock = s.lastClock := by simp [State.fault]
@[simp] theorem State.fault_faulted (r : FaultReason) (s : State) : (s.fault r).faulted = s.faulted.add r := by simp [State.fault]
@[simp] theorem State.fault_refused (r : FaultReason) (s : State) : (s.fault r).refused = s.refused := by simp [State.fault]
@[simp] theorem State.fault_trace (r : FaultReason) (s : State) : (s.fault r).trace = s.trace ++ [.fault s.cur r] := by simp [State.fault]
@[simp] theorem State.fault_cur (r : FaultReason) (s : State) : (s.fault r).cur = s.cur := by simp [State.fault]
@[simp] theorem State.fault_env (r : FaultReason) (s : State) : (s.fault r).env = s.env := by simp [State.fault]

/-! ### clearReady -/

@[simp] theorem State.clearReady_params (s : State) : (s.clearReady).params = s.params := rfl
@[simp] theorem State.clearReady_ready (s : State) : (s.clearReady).ready = false := rfl
@[simp] theorem State.clearReady_stepIndex (s : State) : (s.clearReady).stepIndex = s.stepIndex := rfl
@[simp] theorem State.clearReady_throttle (s : State) : (s.clearReady).throttle = s.throttle := rfl
@[simp] theorem State.clearReady_pulsing (s : State) : (s.clearReady).pulsing = s.pulsing := rfl
@[simp] theorem State.clearReady_seqState (s : State) : (s.clearReady).seqState = s.seqState := rfl
@[simp] theorem State.clearReady_cancel (s : State) : (s.clearReady).cancel = s.cancel := rfl
@[simp] theorem State.clearReady_ports (s : State) : (s.clearReady).ports = s.ports := rfl
@[simp] theorem State.clearReady_lastClock (s : State) : (s.clearReady).lastClock = s.lastClock := rfl
@[simp] theorem State.clearReady_faulted (s : State) : (s.clearReady).faulted = s.faulted := rfl
@[simp] theorem State.clearReady_refused (s : State) : (s.clearReady).refused = s.refused := rfl
@[simp] theorem State.clearReady_trace (s : State) : (s.clearReady).trace = s.trace := rfl
@[simp] theorem State.clearReady_cur (s : State) : (s.clearReady).cur = s.cur := rfl
@[simp] theorem State.clearReady_env (s : State) : (s.clearReady).env = s.env := rfl

/-! ### markReady -/

@[simp] theorem State.markReady_params (s : State) : (s.markReady).params = s.params := rfl
@[simp] theorem State.markReady_ready (s : State) : (s.markReady).ready = true := rfl
@[simp] theorem State.markReady_stepIndex (s : State) : (s.markReady).stepIndex = s.stepIndex := rfl
@[simp] theorem State.markReady_throttle (s : State) : (s.markReady).throttle = s.throttle := rfl
@[simp] theorem State.markReady_pulsing (s : State) : (s.markReady).pulsing = s.pulsing := rfl
@[simp] theorem State.markReady_seqState (s : State) : (s.markReady).seqState = s.seqState := rfl
@[simp] theorem State.markReady_cancel (s : State) : (s.markReady).cancel = s.cancel := rfl
@[simp] theorem State.markReady_ports (s : State) : (s.markReady).ports = s.ports := rfl
@[simp] theorem State.markReady_lastClock (s : State) : (s.markReady).lastClock = s.lastClock := rfl
@[simp] theorem State.markReady_faulted (s : State) : (s.markReady).faulted = s.faulted := rfl
@[simp] theorem State.markReady_refused (s : State) : (s.markReady).refused = s.refused := rfl
@[simp] theorem State.markReady_trace (s : State) : (s.markReady).trace = s.trace := rfl
@[simp] theorem State.markReady_cur (s : State) : (s.markReady).cur = s.cur := rfl
@[simp] theorem State.markReady_env (s : State) : (s.markReady).env = s.env := rfl

/-! ### beginPulse -/

@[simp] theorem State.beginPulse_params (s : State) : (s.beginPulse).params = s.params := rfl
@[simp] theorem State.beginPulse_ready (s : State) : (s.beginPulse).ready = s.ready := rfl
@[simp] theorem State.beginPulse_stepIndex (s : State) : (s.beginPulse).stepIndex = s.stepIndex := rfl
@[simp] theorem State.beginPulse_throttle (s : State) : (s.beginPulse).throttle = s.throttle := rfl
@[simp] theorem State.beginPulse_pulsing (s : State) : (s.beginPulse).pulsing = true := rfl
@[simp] theorem State.beginPulse_seqState (s : State) : (s.beginPulse).seqState = s.seqState := rfl
@[simp] theorem State.beginPulse_cancel (s : State) : (s.beginPulse).cancel = s.cancel := rfl
@[simp] theorem State.beginPulse_ports (s : State) : (s.beginPulse).ports = s.ports := rfl
@[simp] theorem State.beginPulse_lastClock (s : State) : (s.beginPulse).lastClock = s.lastClock := rfl
@[simp] theorem State.beginPulse_faulted (s : State) : (s.beginPulse).faulted = s.faulted := rfl
@[simp] theorem State.beginPulse_refused (s : State) : (s.beginPulse).refused = s.refused := rfl
@[simp] theorem State.beginPulse_trace (s : State) : (s.beginPulse).trace = s.trace := rfl
@[simp] theorem State.beginPulse_cur (s : State) : (s.beginPulse).cur = s.cur := rfl
@[simp] theorem State.beginPulse_env (s : State) : (s.beginPulse).env = s.env := rfl

/-! ### endPulse -/

@[simp] theorem State.endPulse_params (s : State) : (s.endPulse).params = s.params := rfl
@[simp] theorem State.endPulse_ready (s : State) : (s.endPulse).ready = s.ready := rfl
@[simp] theorem State.endPulse_stepIndex (s : State) : (s.endPulse).stepIndex = s.stepIndex := rfl
@[simp] theorem State.endPulse_throttle (s : State) : (s.endPulse).throttle = s.throttle := rfl
@[simp] theorem State.endPulse_pulsing (s : State) : (s.endPulse).pulsing = false := rfl
@[simp] theorem State.endPulse_seqState (s : State) : (s.endPulse).seqState = s.seqState := rfl
@[simp] theorem State.endPulse_cancel (s : State) : (s.endPulse).cancel = s.cancel := rfl
@[simp] theorem State.endPulse_ports (s : State) : (s.endPulse).ports = s.ports := rfl
@[simp] theorem State.endPulse_lastClock (s : State) : (s.endPulse).lastClock = s.lastClock := rfl
@[simp] theorem State.endPulse_faulted (s : State) : (s.endPulse).faulted = s.faulted := rfl
@[simp] theorem State.endPulse_refused (s : State) : (s.endPulse).refused = s.refused := rfl
@[simp] theorem State.endPulse_trace (s : State) : (s.endPulse).trace = s.trace := rfl
@[simp] theorem State.endPulse_cur (s : State) : (s.endPulse).cur = s.cur := rfl
@[simp] theorem State.endPulse_env (s : State) : (s.endPulse).env = s.env := rfl

/-! ### beginLoop -/

@[simp] theorem State.beginLoop_params (s : State) : (s.beginLoop).params = s.params := rfl
@[simp] theorem State.beginLoop_ready (s : State) : (s.beginLoop).ready = s.ready := rfl
@[simp] theorem State.beginLoop_stepIndex (s : State) : (s.beginLoop).stepIndex = s.stepIndex := rfl
@[simp] theorem State.beginLoop_throttle (s : State) : (s.beginLoop).throttle = s.throttle := rfl
@[simp] theorem State.beginLoop_pulsing (s : State) : (s.beginLoop).pulsing = s.pulsing := rfl
@[simp] theorem State.beginLoop_seqState (s : State) : (s.beginLoop).seqState = .stepping := rfl
@[simp] theorem State.beginLoop_cancel (s : State) : (s.beginLoop).cancel = false := rfl
@[simp] theorem State.beginLoop_ports (s : State) : (s.beginLoop).ports = s.ports := rfl
@[simp] theorem State.beginLoop_lastClock (s : State) : (s.beginLoop).lastClock = s.lastClock := rfl
@[simp] theorem State.beginLoop_faulted (s : State) : (s.beginLoop).faulted = s.faulted := rfl
@[simp] theorem State.beginLoop_refused (s : State) : (s.beginLoop).refused = s.refused := rfl
@[simp] theorem State.beginLoop_trace (s : State) : (s.beginLoop).trace = s.trace := rfl
@[simp] theorem State.beginLoop_cur (s : State) : (s.beginLoop).cur = s.cur := rfl
@[simp] theorem State.beginLoop_env (s : State) : (s.beginLoop).env = s.env := rfl

/-! ### endLoop -/

@[simp] theorem State.endLoop_params (s : State) : (s.endLoop).params = s.params := rfl
@[simp] theorem State.endLoop_ready (s : State) : (s.endLoop).ready = s.ready := rfl
@[simp] theorem State.endLoop_stepIndex (s : State) : (s.endLoop).stepIndex = s.stepIndex := rfl
@[simp] theorem State.endLoop_throttle (s : State) : (s.endLoop).throttle = s.throttle := rfl
@[simp] theorem State.endLoop_pulsing (s : State) : (s.endLoop).pulsing = s.pulsing := rfl
@[simp] theorem State.endLoop_seqState (s : State) : (s.endLoop).seqState = .idle := rfl
@[simp] theorem State.endLoop_cancel (s : State) : (s.endLoop).cancel = false := rfl
@[simp] theorem State.endLoop_ports (s : State) : (s.endLoop).ports = s.ports := rfl
@[simp] theorem State.endLoop_lastClock (s : State) : (s.endLoop).lastClock = s.lastClock := rfl
@[simp] theorem State.endLoop_faulted (s : State) : (s.endLoop).faulted = s.faulted := rfl
@[simp] theorem State.endLoop_refused (s : State) : (s.endLoop).refused = s.refused := rfl
@[simp] theorem State.endLoop_trace (s : State) : (s.endLoop).trace = s.trace := rfl
@[simp] theorem State.endLoop_cur (s : State) : (s.endLoop).cur = s.cur := rfl
@[simp] theorem State.endLoop_env (s : State) : (s.endLoop).env = s.env := rfl

/-! ### Contexts -/

/-- Only `ports` decides a port's context. -/
theorem State.ctxAt_congr {s t : State} (h : s.ports = t.ports) (p : Nat) : s.ctxAt p = t.ctxAt p := by
  simp [State.ctxAt, h]

theorem State.ctx?_eq (s : State) : s.ctx? = s.ctxAt s.cur := rfl

theorem State.ctxAt_modPortAt (q : Nat) (f : Port → Port) (s : State) (p : Nat) :
    (s.modPortAt q f).ctxAt p = if q = p then s.ports[p]?.bind (fun x => (f x).ctx) else s.ctxAt p := by
  simp only [State.ctxAt, State.modPortAt_ports, List.getElem?_modify]
  by_cases h : q = p <;> cases s.ports[p]? <;> simp [h]

@[simp] theorem State.ctxAt_modCtx (f : Ctx → Ctx) (s : State) (p : Nat) :
    (s.modCtx f).ctxAt p = if s.cur = p then (s.ctxAt p).map f else s.ctxAt p := by
  rw [State.modCtx, State.ctxAt_modPortAt]
  by_cases h : s.cur = p <;> simp [h, State.ctxAt]

@[simp] theorem State.ctxAt_setReady (b : Bool) (s : State) (p : Nat) : (s.setReady b).ctxAt p = s.ctxAt p := rfl
@[simp] theorem State.ctxAt_setStepIndex (k : Fin 4) (s : State) (p : Nat) :
    (s.setStepIndex k).ctxAt p = s.ctxAt p := rfl
@[simp] theorem State.ctxAt_setThrottle (x : Rat) (s : State) (p : Nat) : (s.setThrottle x).ctxAt p = s.ctxAt p := rfl
@[simp] theorem State.ctxAt_setPulsing (b : Bool) (s : State) (p : Nat) : (s.setPulsing b).ctxAt p = s.ctxAt p := rfl
@[simp] theorem State.ctxAt_setCancel (b : Bool) (s : State) (p : Nat) : (s.setCancel b).ctxAt p = s.ctxAt p := rfl
@[simp] theorem State.ctxAt_setLastClock (t : Rat) (s : State) (p : Nat) :
    (s.setLastClock t).ctxAt p = s.ctxAt p := rfl
@[simp] theorem State.ctxAt_setFaulted (f : FaultSet) (s : State) (p : Nat) :
    (s.setFaulted f).ctxAt p = s.ctxAt p := rfl
@[simp] theorem State.ctxAt_setSeqState (q : SeqState) (s : State) (p : Nat) :
    (s.setSeqState q).ctxAt p = s.ctxAt p := rfl
@[simp] theorem State.ctxAt_setCur (q : Nat) (s : State) (p : Nat) : (s.setCur q).ctxAt p = s.ctxAt p := rfl
@[simp] theorem State.ctxAt_setEnv (e : Env) (s : State) (p : Nat) : (s.setEnv e).ctxAt p = s.ctxAt p := rfl
@[simp] theorem State.ctxAt_emit (e : Event) (s : State) (p : Nat) : (s.emit e).ctxAt p = s.ctxAt p := rfl
@[simp] theorem State.ctxAt_readClockFrom (b : Rat) (s : State) (p : Nat) :
    (s.readClockFrom b).ctxAt p = s.ctxAt p := by simp [State.readClockFrom]
@[simp] theorem State.ctxAt_readClock (s : State) (p : Nat) : s.readClock.ctxAt p = s.ctxAt p := by
  simp [State.readClock]
@[simp] theorem State.ctxAt_clearReady (s : State) (p : Nat) : s.clearReady.ctxAt p = s.ctxAt p := rfl
@[simp] theorem State.ctxAt_markReady (s : State) (p : Nat) : s.markReady.ctxAt p = s.ctxAt p := rfl
@[simp] theorem State.ctxAt_beginPulse (s : State) (p : Nat) : s.beginPulse.ctxAt p = s.ctxAt p := rfl
@[simp] theorem State.ctxAt_endPulse (s : State) (p : Nat) : s.endPulse.ctxAt p = s.ctxAt p := rfl
@[simp] theorem State.ctxAt_beginLoop (s : State) (p : Nat) : s.beginLoop.ctxAt p = s.ctxAt p := rfl
@[simp] theorem State.ctxAt_endLoop (s : State) (p : Nat) : s.endLoop.ctxAt p = s.ctxAt p := rfl

/-- A context after the running command's transaction or wait: one more closing action done (R71). -/
@[simp] theorem State.ctxAt_busWrite (r v : Byte) (s : State) (p : Nat) :
    (s.busWrite r v).ctxAt p = if s.cur = p then (s.ctxAt p).map (Ctx.tookAck s.env.nextAck) else s.ctxAt p := by
  by_cases h : s.cur = p <;> simp [State.busWrite, h]

@[simp] theorem State.ctxAt_busRead (r : Byte) (s : State) (p : Nat) :
    (s.busRead r).ctxAt p = if s.cur = p then (s.ctxAt p).map (Ctx.tookRead s.env.nextRead) else s.ctxAt p := by
  by_cases h : s.cur = p <;> simp [State.busRead, h]

@[simp] theorem State.ctxAt_busSend (d : DevAddr) (v : Byte) (s : State) (p : Nat) :
    (s.busSend d v).ctxAt p = if s.cur = p then (s.ctxAt p).map (Ctx.tookAck s.env.nextAck) else s.ctxAt p := by
  by_cases h : s.cur = p <;> simp [State.busSend, h]

@[simp] theorem State.ctxAt_waitUntil (d : Rat) (s : State) (p : Nat) :
    (s.waitUntil d).ctxAt p = if s.cur = p then (s.ctxAt p).map (Ctx.waiting d) else s.ctxAt p := by
  by_cases h : s.cur = p <;> simp [State.waitUntil, h]

@[simp] theorem State.ctxAt_waitFor (d : Rat) (s : State) (p : Nat) :
    (s.waitFor d).ctxAt p = if s.cur = p then (s.ctxAt p).map (Ctx.waiting (s.clockValue 0 + d)) else s.ctxAt p := by
  by_cases h : s.cur = p <;> simp [State.waitFor, h]

@[simp] theorem State.ctxAt_resume (c : Ctx) (s : State) (p : Nat) :
    (s.resume c).ctxAt p = if s.cur = p then (s.ctxAt p).map Ctx.resumed else s.ctxAt p := by
  by_cases h : s.cur = p <;> simp [State.resume, h]

/-- After a response the port's command is over (R98). -/
@[simp] theorem State.ctxAt_respond (q : Status) (d : RespData) (s : State) (p : Nat) :
    (s.respond q d).ctxAt p = if s.cur = p then none else s.ctxAt p := by
  rw [State.respond, State.ctxAt_modPortAt]
  by_cases h : s.cur = p <;> simp [h]

/-- After a fault the port's command has no further segment (R206). -/
@[simp] theorem State.ctxAt_fault (r : FaultReason) (s : State) (p : Nat) :
    (s.fault r).ctxAt p = if s.cur = p then none else s.ctxAt p := by
  rw [State.fault, State.ctxAt_modPortAt]
  by_cases h : s.cur = p <;> simp [h]

/-! ### Segments -/

/-- A segment runs exactly when the port `cur` has a command in flight (R71). -/
theorem onCtx_next_iff {s t : State} {f : Ctx → State} :
    onCtx s f = .next t ↔ ∃ c, s.ctx? = some c ∧ f c = t := by
  unfold onCtx
  cases s.ctx? <;> simp

theorem onCtx_of_ctx {s : State} {c : Ctx} (h : s.ctx? = some c) (f : Ctx → State) :
    onCtx s f = .next (f c) := by
  simp [onCtx, h]

theorem gated_ready {s : State} (h : s.ready = true) (rest : State) : gated s rest = rest := by simp [gated, h]

theorem gated_not_ready {s : State} (h : s.ready = false) (rest : State) : gated s rest = s.raise .notReady := by
  simp [gated, h]

theorem answered_err {c : Ctx} (h : c.answer = .err) (fail rest : State) : answered c fail rest = fail := by
  simp [answered, h]

theorem answered_ok {c : Ctx} (h : c.answer ≠ .err) (fail rest : State) : answered c fail rest = rest := by
  simp [answered, h]

theorem issue_lt {ws : List RegWrite} {k : Nat} (h : k < ws.length) (done : State → State) (s : State) :
    issue ws k done s = s.busWrite ws[k].reg ws[k].val := by
  simp [issue, h]

theorem issue_ge {ws : List RegWrite} {k : Nat} (h : ws.length ≤ k) (done : State → State) (s : State) :
    issue ws k done s = done s := by
  simp [issue, h]

/-- The value a clock reading returns is not below its bound, the last reading, or 0 (R219, R220). -/
theorem State.clockValue_ge (s : State) (b : Rat) :
    b ≤ s.clockValue b ∧ s.lastClock ≤ s.clockValue b ∧ 0 ≤ s.clockValue b := by
  simp [State.clockValue]

/-- Every value that meets the bounds is a possible reading (R219, R220). -/
theorem State.clockValue_of_draw {s : State} {b t : Rat} (hn : s.env.nextClock = t) (hb : b ≤ t)
    (hl : s.lastClock ≤ t) (h0 : 0 ≤ t) : s.clockValue b = t := by
  simp [State.clockValue, hn, hb, hl, h0]

/-! ### Composing updates of one port -/

theorem State.modPortAt_modPortAt (p : Nat) (f g : Port → Port) (s : State) :
    (s.modPortAt p f).modPortAt p g = s.modPortAt p (g ∘ f) := by
  simp [State.modPortAt, State.setPorts, List.modify_modify_eq]

@[simp] theorem State.modCtx_modCtx (f g : Ctx → Ctx) (s : State) :
    (s.modCtx f).modCtx g = s.modCtx (g ∘ f) := by
  simp only [State.modCtx, State.modPortAt_cur, State.modPortAt_modPortAt]
  congr 1
  funext q
  simp

/-- A response forgets the context (R98). -/
@[simp] theorem State.respond_modCtx (f : Ctx → Ctx) (q : Status) (d : RespData) (s : State) :
    (s.modCtx f).respond q d = s.respond q d := by
  simp only [State.respond, State.modCtx, State.modPortAt, State.emit, State.setTrace, State.setPorts,
    List.modify_modify_eq]
  rfl

theorem State.ctx?_modCtx {s : State} {c : Ctx} (h : s.ctx? = some c) (f : Ctx → Ctx) :
    (s.modCtx f).ctx? = some (f c) := by
  simp only [State.ctx?] at h ⊢
  simp [h]

end Sys2Proof.Machine
end

