-- ==== Sys2Proof/Laws/Sequencer.lean ====
section
/-! SUPPORT. Sys2Proof/Laws/Sequencer.lean: what the shared pieces of the sequencer's commands do. -/

namespace Sys2Proof.Machine

theorem State.stepWrites_length (s : State) : s.stepWrites.length = 16 := coilWrites_length _ _

/-- An iteration begins: a clock reading, the index advanced, `pulsing` set, and the first of its sixteen writes
(R180). -/
theorem State.beginIteration_eq (s : State) (c : Ctx) :
    ∃ w, (coilWrites s.params.wiring s.params.coilTable[nextIndex s.stepIndex c.dir])[0]? = some w ∧
      s.beginIteration c =
        (((s.readClock.modCtx (Ctx.startIteration s.readClock.lastClock)).setStepIndex
          (nextIndex s.stepIndex c.dir)).beginPulse).busWrite w.reg w.val := by
  have h : 0 < (coilWrites s.params.wiring s.params.coilTable[nextIndex s.stepIndex c.dir]).length := by simp
  refine ⟨_, List.getElem?_eq_getElem h, ?_⟩
  exact issue_lt (ws := coilWrites s.params.wiring s.params.coilTable[nextIndex s.stepIndex c.dir]) h id
    (((s.readClock.modCtx (Ctx.startIteration s.readClock.lastClock)).setStepIndex
      (nextIndex s.stepIndex c.dir)).beginPulse)

/-- The top of the loop while iterations remain and no cancel is requested (R180). -/
theorem State.loopTop_more {s : State} {c : Ctx} (h : c.i < c.count.toNat) (hc : s.cancel = false) :
    s.loopTop c = s.beginIteration c := by
  simp [State.loopTop, h, hc]

/-- The top of the loop after a cancel request (R180, R185). -/
theorem State.loopTop_cancelled {s : State} {c : Ctx} (h : c.i < c.count.toNat) (hc : s.cancel = true) :
    s.loopTop c = s.endStep c c.duration true := by
  simp [State.loopTop, h, hc]

/-- The top of the loop when every iteration is done; COUNT = 0 reports duration 0 (R180, R181). -/
theorem State.loopTop_done {s : State} {c : Ctx} (h : c.count.toNat ≤ c.i) :
    s.loopTop c = s.endStep c (if c.count = 0 then 0 else c.duration) false := by
  have : ¬ c.i < c.count.toNat := by omega
  simp only [State.loopTop, this, if_false]
  split <;> rfl

end Sys2Proof.Machine
end

