-- ==== Sys2Proof/Laws/Frame.lean ====
section
/-! SUPPORT. Sys2Proof/Laws/Frame.lean: what every shared operation, and so a segment of any command, leaves unchanged:
parameters, `refused`, the scheduler's pick and queue, and the other ports; the trace grows and the clock does not go
back. -/

namespace Sys2Proof.Machine

/-- What lies outside a segment of the command on port `cur` (10_state.md R29, R31, R34, R35, 20_memory.md R73). -/
structure Frame (s t : State) : Prop where
  params : t.params = s.params
  refused : t.refused = s.refused
  cur : t.cur = s.cur
  turns : t.env.turns = s.env.turns
  clock : s.lastClock ≤ t.lastClock
  trace : s.trace <+: t.trace
  len : t.ports.length = s.ports.length
  other : ∀ p, p ≠ s.cur → t.ports[p]? = s.ports[p]?

theorem Frame.refl (s : State) : Frame s s := ⟨rfl, rfl, rfl, rfl, le_rfl, List.prefix_rfl, rfl, fun _ _ => rfl⟩

theorem Frame.trans {s t u : State} (a : Frame s t) (b : Frame t u) : Frame s u :=
  ⟨b.params.trans a.params, b.refused.trans a.refused, b.cur.trans a.cur, b.turns.trans a.turns,
    a.clock.trans b.clock, a.trace.trans b.trace, b.len.trans a.len,
    fun p h => (b.other p (by rw [a.cur]; exact h)).trans (a.other p h)⟩

theorem Frame.modPort (f) (s : State) : Frame s (s.modPortAt s.cur f) :=
  ⟨rfl, rfl, rfl, rfl, le_rfl, List.prefix_rfl, by simp [State.modPortAt, State.setPorts],
    fun p h => by simp [State.modPortAt, State.setPorts, h.symm]⟩

theorem Frame.modCtx (f) (s : State) : Frame s (s.modCtx f) := Frame.modPort _ s

theorem Frame.emit (e) (s : State) : Frame s (s.emit e) := ⟨rfl, rfl, rfl, rfl, le_rfl, List.prefix_append _ _, rfl, fun _ _ => rfl⟩

theorem Frame.env (e) (s : State) (h : e.turns = s.env.turns) : Frame s (s.setEnv e) := ⟨rfl, rfl, rfl, h, le_rfl, List.prefix_rfl, rfl, fun _ _ => rfl⟩

theorem Frame.busWrite (r v) (s : State) : Frame s (s.busWrite r v) :=
  ((Frame.env _ s (by unfold Env.dropAck; split <;> rfl)).trans (Frame.emit _ _)).trans (Frame.modCtx _ _)

theorem Frame.busSend (r v) (s : State) : Frame s (s.busSend r v) :=
  ((Frame.env _ s (by unfold Env.dropAck; split <;> rfl)).trans (Frame.emit _ _)).trans (Frame.modCtx _ _)

theorem Frame.busRead (r) (s : State) : Frame s (s.busRead r) :=
  ((Frame.env _ s (by unfold Env.dropRead; split <;> rfl)).trans (Frame.emit _ _)).trans (Frame.modCtx _ _)

theorem Frame.readClockFrom (b) (s : State) : Frame s (s.readClockFrom b) :=
  ⟨rfl, rfl, rfl, by simp; unfold Env.dropClock; split <;> rfl, by simp [State.clockValue], by simp, rfl, fun _ _ => rfl⟩

theorem Frame.readClock (s : State) : Frame s s.readClock := Frame.readClockFrom _ s

theorem Frame.resume (c) (s : State) : Frame s (s.resume c) := (Frame.readClockFrom _ s).trans (Frame.modCtx _ _)

theorem Frame.waitUntil (c) (s : State) : Frame s (s.waitUntil c) := (Frame.emit _ s).trans (Frame.modCtx _ _)

theorem Frame.waitFor (c) (s : State) : Frame s (s.waitFor c) := (Frame.readClock s).trans (Frame.waitUntil _ _)

theorem Frame.respond (a b) (s : State) : Frame s (s.respond a b) := (Frame.emit _ s).trans (Frame.modPort _ _)

/-- An update of the other fields. -/
theorem Frame.same {s t : State} (a : t.params = s.params) (b : t.refused = s.refused) (c : t.cur = s.cur)
    (d : t.env = s.env) (e : t.lastClock = s.lastClock) (f : t.trace = s.trace) (g : t.ports = s.ports) : Frame s t :=
  ⟨a, b, c, by rw [d], e.ge, by rw [f], by rw [g], fun _ _ => by rw [g]⟩

theorem Frame.setReady (b) (s : State) : Frame s (s.setReady b) := Frame.same rfl rfl rfl rfl rfl rfl rfl

theorem Frame.setThrottle (x) (s : State) : Frame s (s.setThrottle x) := Frame.same rfl rfl rfl rfl rfl rfl rfl

theorem Frame.setCancel (b) (s : State) : Frame s (s.setCancel b) := Frame.same rfl rfl rfl rfl rfl rfl rfl

theorem Frame.clearReady (s : State) : Frame s (s.clearReady) := Frame.same rfl rfl rfl rfl rfl rfl rfl

theorem Frame.beginPulse (s : State) : Frame s (s.beginPulse) := Frame.same rfl rfl rfl rfl rfl rfl rfl

theorem Frame.endPulse (s : State) : Frame s (s.endPulse) := Frame.same rfl rfl rfl rfl rfl rfl rfl

theorem Frame.beginLoop (s : State) : Frame s (s.beginLoop) := Frame.same rfl rfl rfl rfl rfl rfl rfl

theorem Frame.endLoop (s : State) : Frame s (s.endLoop) := Frame.same rfl rfl rfl rfl rfl rfl rfl

theorem Frame.fault (a) (s : State) : Frame s (s.fault a) :=
  ((Frame.same rfl rfl rfl rfl rfl rfl rfl : Frame s (s.setFaulted (s.faulted.add a))).trans (Frame.emit _ _)).trans
    (Frame.modPort _ _)

theorem Frame.issue {s : State} (ws k d) (h : Frame s (d s)) : Frame s (issue ws k d s) := by
  unfold Sys2Proof.Machine.issue; split
  · exact Frame.busWrite _ _ _
  · exact h

theorem Frame.answered {s : State} (c a b) (h : Frame s a) (h' : Frame s b) : Frame s (answered c a b) := by
  unfold Sys2Proof.Machine.answered; split <;> assumption

theorem Frame.gated {s : State} (b) (h' : Frame s b) : Frame s (gated s b) := by
  unfold Sys2Proof.Machine.gated; split
  · assumption
  · exact Frame.respond _ _ _

theorem Frame.pulse (k : Fin 4) (s : State) : Frame s (s.setStepIndex k).beginPulse :=
  Frame.same rfl rfl rfl rfl rfl rfl rfl

theorem Frame.beginIteration (c) (s : State) : Frame s (s.beginIteration c) := by
  obtain ⟨w, _, e⟩ := s.beginIteration_eq c
  rw [e]
  have h : Frame s (s.readClock.modCtx (Ctx.startIteration s.readClock.lastClock)) :=
    (Frame.readClock s).trans (Frame.modCtx _ _)
  exact (h.trans (Frame.pulse _ _)).trans (Frame.busWrite _ _ _)

theorem Frame.endStep (c d e) (s : State) : Frame s (s.endStep c d e) :=
  (Frame.endLoop s).trans (Frame.respond _ _ _)

theorem Frame.loopTop (c) (s : State) : Frame s (s.loopTop c) := by
  unfold State.loopTop
  split
  · split
    · exact Frame.endStep _ _ _ _
    · exact Frame.beginIteration _ _
  · split <;> exact Frame.endStep _ _ _ _

theorem Frame.endIteration (c t) (s : State) : Frame s (s.endIteration c t) := (Frame.modCtx _ s).trans (Frame.loopTop _ _)

theorem Frame.measure (c) (s : State) : Frame s (s.measure c) := by
  unfold State.measure
  have h : Frame s s.endPulse.readClock := (Frame.endPulse s).trans (Frame.readClock _)
  dsimp only; split
  · exact h.trans (Frame.waitUntil _ _)
  · exact h.trans (Frame.endIteration _ _ _)

/-- A segment of any command keeps its frame. -/
theorem exec_frame {i : Instr} {s t : State} (h : exec i s = .next t) : Frame s t := by
  cases i <;> obtain ⟨c, hc, rfl⟩ := onCtx_next_iff.1 h
  · unfold initSegment; split
    · exact (Frame.clearReady s).trans (Frame.issue _ _ _ (Frame.refl _))
    · exact Frame.answered _ _ _ (Frame.respond _ _ _) (Frame.waitFor _ _)
    · exact (Frame.resume _ _).trans (Frame.busRead _ _)
    · exact Frame.answered _ _ _ (Frame.respond _ _ _) ((Frame.modCtx _ _).trans (Frame.busWrite _ _ _))
    · exact Frame.answered _ _ _ (Frame.respond _ _ _) (Frame.waitFor _ _)
    · exact (Frame.resume _ _).trans (Frame.busRead _ _)
    · exact Frame.answered _ _ _ (Frame.respond _ _ _)
        (Frame.issue _ _ _ (((Frame.modCtx _ s).trans (Frame.setReady true _)).trans (Frame.respond _ _ _)))
  iterate 3
    split
    · refine Frame.gated _ ?_; split
      · exact Frame.issue _ _ _ (Frame.respond _ _ _)
      · exact Frame.respond _ _ _
    · exact Frame.answered _ _ _ (Frame.respond _ _ _) (Frame.issue _ _ _ (Frame.respond _ _ _))
  · split
    · refine Frame.gated _ ?_; split
      · exact Frame.fault _ _
      · split
        · exact Frame.fault _ _
        · exact (Frame.modCtx _ _).trans (Frame.busRead _ _)
    · unfold setfreqRest; split
      · exact Frame.answered _ _ _ (Frame.respond _ _ _) ((Frame.modCtx _ _).trans (Frame.busWrite _ _ _))
      · exact Frame.answered _ _ _ (Frame.respond _ _ _) (Frame.busWrite _ _ _)
      · exact Frame.answered _ _ _ (Frame.respond _ _ _) (Frame.busWrite _ _ _)
      · exact Frame.answered _ _ _ (Frame.respond _ _ _) (Frame.waitFor _ _)
      · exact (Frame.resume _ _).trans (Frame.busWrite _ _ _)
      · exact Frame.answered _ _ _ (Frame.respond _ _ _) (Frame.respond _ _ _)
  · split
    · exact Frame.gated _ (Frame.busRead _ _)
    · exact Frame.answered _ _ _ (Frame.respond _ _ _) ((Frame.modCtx _ _).trans (Frame.respond _ _ _))
  · split
    · exact Frame.busSend _ _ _
    · exact Frame.answered _ _ _ (Frame.respond _ _ _) (Frame.respond _ _ _)
  · split
    · refine Frame.gated _ ?_; split
      · exact (Frame.modCtx _ _).trans (Frame.issue _ _ _ (Frame.refl _))
      · exact Frame.respond _ _ _
    · exact Frame.answered _ _ _ (Frame.respond _ _ _) (Frame.issue _ _ _ ((Frame.setThrottle _ s).trans (Frame.respond _ _ _)))
  iterate 2
    unfold coilSegment; split
    · exact Frame.gated _ ((Frame.beginPulse s).trans (Frame.issue _ _ _ (Frame.refl _)))
    · exact Frame.answered _ _ _ ((Frame.endPulse s).trans (Frame.respond _ _ _))
        (Frame.issue _ _ _ ((Frame.endPulse s).trans (Frame.respond _ _ _)))
  · split
    · refine Frame.gated _ ?_; split
      · exact Frame.respond _ _ _
      · exact ((Frame.beginLoop s).trans (Frame.modCtx _ _)).trans (Frame.loopTop _ _)
    · exact (Frame.resume _ _).trans (Frame.endIteration _ _ _)
    · exact Frame.answered _ _ _ (((Frame.endPulse s).trans (Frame.endLoop _)).trans (Frame.respond _ _ _)) (Frame.issue _ _ _ (Frame.measure _ _))
  · unfold State.requestStop; split
    · exact (Frame.setCancel true s).trans (Frame.respond _ _ _)
    · exact Frame.respond _ _ _

end Sys2Proof.Machine
end

