-- ==== Sys2Proof/Laws/Memory.lean ====
section
/-! SUPPORT. Sys2Proof/Laws/Memory.lean: the canonical form of the register images and how reads see writes; every
image the trace gives is in that form. -/

namespace Sys2Proof.Machine

theorem Memory.wf_nil : Memory.wf [] := List.Pairwise.nil

theorem Memory.mem_write {m : Memory} {a : Nat} {v : Byte} {x : Host.Cell} (h : x ∈ m.write a v) :
    x = (a, v) ∨ x ∈ m := by
  induction m with
  | nil => simpa [Memory.write] using h
  | cons c m ih =>
    obtain ⟨b, y⟩ := c
    simp only [Memory.write] at h
    split at h
    · simpa using h
    · split at h
      · simp only [List.mem_cons] at h ⊢; tauto
      · simp only [List.mem_cons] at h ⊢; tauto

theorem Memory.wf_write {m : Memory} (h : m.wf) (a : Nat) (v : Byte) : (m.write a v).wf := by
  induction m with
  | nil => simp [Memory.write, Memory.wf]
  | cons c m ih =>
    obtain ⟨b, y⟩ := c
    simp only [Memory.wf, List.pairwise_cons] at h ih ⊢
    simp only [Memory.write]
    split
    · rename_i hab
      simp only [List.pairwise_cons, List.mem_cons]
      exact ⟨fun x hx => hx.elim (fun e => e ▸ hab) fun hx => lt_trans hab (h.1 x hx), h.1, h.2⟩
    · split
      · rename_i _ hab
        subst hab
        simpa only [List.pairwise_cons] using h
      · rename_i h1 h2
        simp only [List.pairwise_cons]
        refine ⟨fun x hx => ?_, ih h.2⟩
        rcases Memory.mem_write hx with rfl | hx
        · show b < a
          omega
        · exact h.1 x hx

theorem Memory.wf_forget {m : Memory} (h : m.wf) (gone : Nat → Bool) : (m.forget gone).wf := List.Pairwise.filter _ h

theorem Memory.wf_update {m : Memory} (h : m.wf) (a : Nat) (v : Option Byte) : (m.update a v).wf := by
  cases v
  · exact Memory.wf_forget h (· == a)
  · exact Memory.wf_write h a _

/-- A read after a write gives the value written at that address, and what it gave before everywhere else. -/
theorem Memory.read_write (m : Memory) (a b : Nat) (v : Byte) (h : m.wf) :
    (m.write a v).read b = if b = a then some v else m.read b := by
  induction m with
  | nil => simp [Memory.write, Memory.read]
  | cons c m ih =>
    obtain ⟨x, y⟩ := c
    simp only [Memory.wf, List.pairwise_cons] at h
    simp only [Memory.write]
    split
    · simp [Memory.read]
    · split
      · rename_i _ e
        subst e
        by_cases hb : b = a <;> simp [Memory.read, hb]
      · rename_i h1 h2
        by_cases hb : b = x
        · subst hb
          have : b ≠ a := fun e => h2 e.symm
          simp [Memory.read, this]
        · simp [Memory.read, hb, ih h.2]

/-- A forgotten address has no known value; the others are as before. -/
theorem Memory.read_forget (m : Memory) (gone : Nat → Bool) (b : Nat) :
    (m.forget gone).read b = if gone b then none else m.read b := by
  induction m with
  | nil => simp [Memory.forget, Memory.read]
  | cons c m ih =>
    obtain ⟨x, y⟩ := c
    simp only [Memory.forget] at ih ⊢
    by_cases hx : gone x = true
    · simp only [List.filter_cons, hx, Bool.not_true, Bool.false_eq_true, if_false, ih, Memory.read]
      by_cases hb : b = x
      · subst hb; simp [hx]
      · simp [hb]
    · by_cases hb : b = x
      · subst hb; simp [hx, Memory.read]
      · simp [hx, Memory.read, hb, ih]

theorem Memory.read_update (m : Memory) (a b : Nat) (v : Option Byte) (h : m.wf) :
    (m.update a v).read b = if b = a then v else m.read b := by
  cases v
  · simp [Memory.update, Memory.read_forget]
  · exact Memory.read_write m a b _ h

/-- All three images of the chip are in the canonical form. -/
abbrev Chip.wf (k : Chip) : Prop := k.regs.wf ∧ k.drive.wf ∧ k.broadcast.wf

theorem Chip.wf_unknown : Chip.unknown.wf := ⟨Memory.wf_nil, Memory.wf_nil, Memory.wf_nil⟩

theorem driveAll_wf {m : Memory} (h : m.wf) (offset : Nat) (v : Option Byte) : (driveAll m offset v).wf := by
  unfold driveAll
  generalize List.range numChannels = l
  induction l generalizing m with
  | nil => exact h
  | cons n l ih => exact ih (Memory.wf_update h _ _)

theorem Chip.put_wf {k : Chip} (h : k.wf) (a : Nat) (v : Option Byte) : (k.put a v).wf := by
  unfold Chip.put
  split
  · exact ⟨Memory.wf_update (Memory.wf_forget h.1 _) _ _, driveAll_wf h.2.1 _ _, driveAll_wf h.2.2 _ _⟩
  · split
    · exact ⟨Memory.wf_update h.1 _ _, Memory.wf_update h.2.1 _ _, Memory.wf_forget h.2.2 (· == a)⟩
    · split
      · exact ⟨Memory.wf_update h.1 _ _, h.2⟩
      · split <;> exact ⟨Memory.wf_update h.1 _ _, h.2⟩

theorem Chip.learn_wf (p : Params) {k : Chip} (h : k.wf) (e : Event) : (k.learn p e).wf := by
  unfold Chip.learn
  split
  · split
    · exact Chip.put_wf h _ _
    · exact h
  · split
    · exact Chip.put_wf h _ _
    · exact h
  · split
    · exact ⟨Memory.wf_write h.1 _ _, h.2⟩
    · exact h
  · exact h
  · exact Chip.wf_unknown
  all_goals exact h

/-- Whatever the trace, what it says of the chip is in the canonical form. -/
theorem Chip.ofTrace_wf (p : Params) (tr : List Event) {k : Chip} (h : k.wf) : (Chip.ofTrace p k tr).wf := by
  induction tr generalizing k with
  | nil => exact h
  | cons e tr ih => exact ih (Chip.learn_wf p h e)

theorem Chip.ofTrace_append (p : Params) (k : Chip) (tr es : List Event) :
    Chip.ofTrace p k (tr ++ es) = Chip.ofTrace p (Chip.ofTrace p k tr) es := List.foldl_append

theorem State.chip_wf (s : State) : s.chip.wf := Chip.ofTrace_wf _ _ Chip.wf_unknown

/-- After reset nothing is known of the chip (R41, R242). -/
theorem State.chip_reset (p : Params) (clock : Rat) : (State.resetWith p clock).chip = Chip.unknown := rfl

/-- The register-file device's image keeps the canonical form. -/
theorem registerFile_wf (tr : List Event) {m : Memory} (h : m.wf) : (registerFile m tr).wf := by
  induction tr generalizing m with
  | nil => exact h
  | cons e tr ih =>
    refine ih ?_
    cases e with
    | write p dev reg v a => exact Memory.wf_write h _ _
    | _ => exact h

/-- What one byte written to the broadcast group puts in effect: every channel's register at that offset. -/
theorem read_driveAll {m : Memory} (h : m.wf) (offset : Nat) (v : Option Byte) (b : Nat) :
    (driveAll m offset v).read b = if ∃ n < numChannels, b = 0x06 + 4 * n + offset then v else m.read b := by
  have key : ∀ (l : List Nat) (m : Memory), m.wf →
      (l.foldl (fun m n => m.update (0x06 + 4 * n + offset) v) m).read b =
        if ∃ n ∈ l, b = 0x06 + 4 * n + offset then v else m.read b := by
    intro l
    induction l with
    | nil => intro m _; simp
    | cons n l ih =>
      intro m h
      rw [List.foldl_cons, ih _ (Memory.wf_update h _ _), Memory.read_update _ _ _ _ h]
      by_cases h1 : ∃ n ∈ l, b = 0x06 + 4 * n + offset <;> by_cases h2 : b = 0x06 + 4 * n + offset <;> simp [h1, h2]
  have := key (List.range numChannels) m h
  simp only [List.mem_range] at this
  exact this

/-- A counter position has no sentinel bit (R222). -/
theorem sentinelBit_of_le {v : Nat} (h : v ≤ tickMax) : sentinelBit v = false :=
  Nat.testBit_lt_two_pow (by simp only [tickMax] at h; omega)

/-- A pair of counter positions drives its ticks (R40, R222). -/
theorem Drive.ofPair_ticks {a b : Nat} (ha : a ≤ tickMax) (hb : b ≤ tickMax) : Drive.ofPair a b = .ticks a b := by
  have h1 : a ≠ tickSentinel := by simp only [tickMax, tickSentinel] at *; omega
  have h2 : b ≠ tickSentinel := by simp only [tickMax, tickSentinel] at *; omega
  simp [Drive.ofPair, sentinelBit_of_le ha, ha, hb, h1, h2]

end Sys2Proof.Machine
end

