-- ==== Sys2Proof/Laws/Mode.lean ====
section
/-! SUPPORT. Sys2Proof/Laws/Mode.lean: how the events of a port's command grow with the trace, for the discipline of
MODE1 (40_driver.md R117). -/

namespace Sys2Proof.Machine

/-- Another port's event is none of the command's. -/
theorem commandEvents_other {p : Nat} {e : Event} (h : e.port ≠ p) (tr : List Event) :
    commandEvents p (tr ++ [e]) = commandEvents p tr := by
  simp [commandEvents, h]

/-- The port's own event stands at the end, unless a command starts or ends there. -/
theorem commandEvents_own {p : Nat} {e : Event} (h : e.port = p) (hb : e.bounds = false) (tr : List Event) :
    commandEvents p (tr ++ [e]) = commandEvents p tr ++ [e] := by
  simp [commandEvents, h, hb]

/-- A command that starts or ends has no events yet. -/
theorem commandEvents_bound {p : Nat} {e : Event} (h : e.port = p) (hb : e.bounds = true) (tr : List Event) :
    commandEvents p (tr ++ [e]) = [] := by
  simp [commandEvents, h, hb]

/-- A byte read stays read while the command goes on. -/
theorem readsMode1_mono {dev : DevAddr} {p : Nat} {b : Byte} {e : Event} {tr : List Event} (hr : readsMode1 dev p b tr)
    (h : e.port = p → e.bounds = false) : readsMode1 dev p b (tr ++ [e]) := by
  unfold readsMode1 at hr ⊢
  by_cases hp : e.port = p
  · rw [commandEvents_own hp (h hp)]
    exact List.mem_append_left _ hr
  · rwa [commandEvents_other hp]

/-- The read itself makes the byte one the command has read. -/
theorem readsMode1_read (dev : DevAddr) (p : Nat) (b : Byte) (tr : List Event) :
    readsMode1 dev p b (tr ++ [.read p dev regMode1 (.ok b)]) := by
  unfold readsMode1
  rw [commandEvents_own (p := p) rfl rfl]
  simp

/-- INIT's step 2 makes the next write its step 3. -/
theorem atInitStep3_write (dev : DevAddr) (p : Nat) (tr : List Event) :
    atInitStep3 dev p (tr ++ [.write p dev regMode2 maskOutdrv .ok]) := by
  unfold atInitStep3
  rw [commandEvents_own (p := p) rfl rfl]
  simp

end Sys2Proof.Machine
end

