-- ==== Sys2Proof/Laws/PerInstr.lean ====
section
/-! SUPPORT. Sys2Proof/Laws/PerInstr.lean: per command, its encoding carries the opcode of the row of
spec/opcode_table.json that has its mnemonic (30_encoding.md R82, R90). -/

namespace Sys2Proof.Laws.OpcodeField

/-- The opcode table has a row of the command's mnemonic, whose eight opcode bits are fixed and are those of the
command's word. -/
def Statement (i : Instr) : Prop :=
  ∃ r ∈ opcodeTable, r.mnemonic = i.mnemonic ∧ field r.bits 56 8 = opcode (encode i) ∧ r.mask.extractLsb' 56 8 = 0xFF#8

theorem init : Statement (.init) :=
  ⟨opcodeTable[0], by decide, rfl, by rw [opcode_encode_init]; decide, by decide⟩

theorem wrch (ch : BitVec 8) (onTick offTick : BitVec 16) : Statement (.wrch ch onTick offTick) :=
  ⟨opcodeTable[1], by decide, rfl, by rw [opcode_encode_wrch]; decide, by decide⟩

theorem wrall (onTick offTick : BitVec 16) : Statement (.wrall onTick offTick) :=
  ⟨opcodeTable[2], by decide, rfl, by rw [opcode_encode_wrall]; decide, by decide⟩

theorem setpin (ch : BitVec 8) (pin : PinState) : Statement (.setpin ch pin) :=
  ⟨opcodeTable[3], by decide, rfl, by rw [opcode_encode_setpin]; decide, by decide⟩

theorem setfreq (num : BitVec 32) (den : BitVec 24) : Statement (.setfreq num den) :=
  ⟨opcodeTable[4], by decide, rfl, by rw [opcode_encode_setfreq]; decide, by decide⟩

theorem getfreq : Statement (.getfreq) :=
  ⟨opcodeTable[5], by decide, rfl, by rw [opcode_encode_getfreq]; decide, by decide⟩

theorem swreset : Statement (.swreset) :=
  ⟨opcodeTable[6], by decide, rfl, by rw [opcode_encode_swreset]; decide, by decide⟩

theorem setstr (num : BitVec 32) (den : BitVec 24) : Statement (.setstr num den) :=
  ⟨opcodeTable[7], by decide, rfl, by rw [opcode_encode_setstr]; decide, by decide⟩

theorem coils (c : CoilState) : Statement (.coils c) :=
  ⟨opcodeTable[8], by decide, rfl, by rw [opcode_encode_coils]; decide, by decide⟩

theorem idle : Statement (.idle) :=
  ⟨opcodeTable[9], by decide, rfl, by rw [opcode_encode_idle]; decide, by decide⟩

theorem step (dir : Dir) (count : BitVec 32) : Statement (.step dir count) :=
  ⟨opcodeTable[10], by decide, rfl, by rw [opcode_encode_step]; decide, by decide⟩

theorem stop : Statement (.stop) :=
  ⟨opcodeTable[11], by decide, rfl, by rw [opcode_encode_stop]; decide, by decide⟩

end Sys2Proof.Laws.OpcodeField
end

