-- ==== Sys2Proof/Tests/Slice0.lean ====
section
/-! SUPPORT. Sys2Proof/Tests/Slice0.lean: tests, each of at most one step, with expected results from spec/, mostly
95_test_vectors.md; and for every statement with hypotheses a witness that meets them. -/

open Sys2Proof Sys2Proof.Machine

namespace Sys2Proof.Tests

/-! ### Small states -/

/-- A context of command i at a position, with an answer. -/
def ctxOf (i : Instr) (pos : Nat) (a : Answer) : Ctx :=
  { Ctx.fresh (encode i) with cmd := some i, pos := pos, answer := a }

/-- The example configuration with a context on port 0, which runs next. -/
def running (c : Ctx) (ready : Bool := true) (env : Env := Env.reset) : State :=
  { State.resetWith exampleParams 0 with
    ready := ready
    ports := [⟨true, some c, none⟩, Port.reset]
    env := env }

/-- An environment with k writes answered `ok`. -/
def oks (k : Nat) (clocks : List Rat := []) (reads : List ReadAnswer := []) : Env :=
  ⟨[], List.replicate k .ok, reads, clocks, 0⟩

/-- The next state, where there is one. -/
def next (o : Host.Outcome State Fault Refusal) : State :=
  match o with
  | .next t => t
  | .fault _ => State.reset
  | .refused _ => State.reset

/-! ### Well-formedness: DEN = 0 is the one check (30_encoding.md R92) -/

theorem test_wf_setfreq_zero_den : (Instr.setfreq 1600 0).wf = false := by decide
theorem test_wf_setstr_zero_den : (Instr.setstr 1 0).wf = false := by decide
theorem test_wf_legal :
    (Instr.setfreq 0 1).wf = true ∧ (Instr.setstr 0xFFFFFFFF 0xFFFFFF).wf = true ∧
    (Instr.wrch 255 65535 65535).wf = true := by decide

/-! ### Decoding (words from 95_test_vectors.md) -/

theorem test_decode_init : decode 0x0100000000000000 = .legal .init := by decide
theorem test_decode_wrch : decode 0x0207080008000000 = .legal (.wrch 7 2048 2048) := by decide
theorem test_decode_wrall : decode 0x0300100000000000 = .legal (.wrall 4096 0) := by decide
theorem test_decode_setpin : decode 0x040F000000000001 = .legal (.setpin 15 .on) := by decide
theorem test_decode_setpin_off : decode 0x0400000000000000 = .legal (.setpin 0 .off) := by decide
theorem test_decode_setfreq : decode 0x05001E8480000333 = .legal (.setfreq 2000000 819) := by decide
theorem test_decode_getfreq : decode 0x0600000000000000 = .legal .getfreq := by decide
theorem test_decode_swreset : decode 0x0700000000000000 = .legal .swreset := by decide
theorem test_decode_setstr : decode 0x1000001FFF001FFE = .legal (.setstr 8191 8190) := by decide
theorem test_decode_coils : decode 0x1100000000000008 = .legal (.coils 0b1000) := by decide
theorem test_decode_idle : decode 0x1200000000000000 = .legal .idle := by decide
theorem test_decode_step : decode 0x13000000FFFFFFFF = .legal (.step .forward 4294967295) := by decide
theorem test_decode_stop : decode 0x1400000000000000 = .legal .stop := by decide
theorem test_decode_unknown :
    decode 0x0000000000000000 = .illegal .unknownOpcode ∧ decode 0xFF00000000000000 = .illegal .unknownOpcode ∧
    decode 0x1500000000000000 = .illegal .unknownOpcode := by decide
theorem test_decode_reserved :
    decode 0x0100000000000001 = .illegal .reservedNotZero ∧ decode 0x020F0FFF00000001 = .illegal .reservedNotZero ∧
    decode 0x0301000000000000 = .illegal .reservedNotZero ∧ decode 0x0400000000000003 = .illegal .reservedNotZero ∧
    decode 0x1100000000000010 = .illegal .reservedNotZero ∧ decode 0x1302000000000001 = .illegal .reservedNotZero := by
  decide
theorem test_encode_step_backward : encode (.step .backward 1) = 0x1301000000000001 := by decide
theorem test_decode_table_word :
    decodeTableWord 64 0x1301000000000001 = some (.step .backward 1) ∧ decodeTableWord 64 0 = none := by decide

/-! ### Pure functions (95_test_vectors.md L1.1, L1.2, L1.5, L1.6, L1.10, L1.12 and 2.4, 2.6) -/

theorem test_prescale :
    prescaleOf 1600 = 3 ∧ prescaleOf 50 = 121 ∧ prescaleOf 24 = 253 ∧ prescaleOf (239 / 10) = 254 ∧
    prescaleOf (238 / 10) = 256 ∧ prescaleOf 12210 = 0 ∧ prescaleOf 12211 = -1 ∧
    prescaleOf (2000000 / 819) = 2 ∧ prescaleOf (10000000 / 10647) = 6 := by decide +kernel
theorem test_freq :
    freqOf 0x00 = 390625 / 64 ∧ freqOf 0x03 = 390625 / 256 ∧ freqOf 0x1E = 390625 / 1984 ∧
    freqOf 0xFF = 390625 / 16384 := by decide +kernel
theorem test_duty :
    dutyOf (1 / 2) = 2047 ∧ dutyOf (1 / 3) = 1365 ∧ dutyOf (1 / 10) = 409 ∧ dutyOf (8191 / 8190) = 4095 ∧
    dutyOf (4096 / 4095) = 4096 ∧ dutyOf (-1 / 8190) = -1 ∧ dutyOf (-1 / 2) = -2048 := by decide +kernel
theorem test_str_operand_signed : strOperand 0xFFFFFFFF 2 = -1 / 2 := by decide +kernel
theorem test_mode_bytes :
    sleepByte 0xA1 = 0x31 ∧ restartByte 0x01 = 0x81 ∧ wakeByte 0x11 = 0x01 := by decide
theorem test_next_index : nextIndex 0 .backward = 3 ∧ nextIndex 3 .forward = 0 := by decide
theorem test_assemble :
    assemble "p1: SETSTR -1/2" = some (1, 0x10FFFFFFFF000002) ∧ assemble "COILS 1,0,1,0" = some (0, 0x1100000000000005) ∧
    assemble "SETPIN 10, ON" = some (0, 0x040A000000000001) ∧ assemble "SETFREQ 1/0" = none := by decide +kernel

/-! ### One segment of each command (40_driver.md, 41_sequencer.md; 95_test_vectors.md) -/

/-- L1.9: INIT starts with FA←00. -/
theorem test_init_first :
    (next (exec .init (running (ctxOf .init 0 .nothing) true (oks 1)))).trace = [.write 0 0x40 0xFA 0x00 .ok] ∧
    (next (exec .init (running (ctxOf .init 0 .nothing) true (oks 1)))).ready = false := by decide +kernel

/-- P1: after the wait, R FE is answered 1E, and INIT ends OK {30, 390625/1984} with `ready` = 1. -/
theorem test_init_last :
    (next (exec .init (running (ctxOf .init 11 (.okByte 0x1E)) false))).trace =
      [.respond 0 ⟨.ok, .prescaleFreq 0x1E (390625 / 1984)⟩] ∧
    (next (exec .init (running (ctxOf .init 11 (.okByte 0x1E)) false))).ready = true := by decide +kernel

/-- 2.2: `WRCH 15, 4095, 0`: 43←0F is the second write. -/
theorem test_wrch_second :
    (next (exec (.wrch 15 4095 0) (running (ctxOf (.wrch 15 4095 0) 1 .ok) true (oks 1)))).trace =
      [.write 0 0x40 0x43 0x0F .ok] := by decide +kernel

/-- L1.4: `WRCH 0, 4096, 0` is VALIDATION. -/
theorem test_wrch_validation :
    (next (exec (.wrch 0 4096 0) (running (ctxOf (.wrch 0 4096 0) 0 .nothing)))).trace =
      [.respond 0 ⟨.validation, .none⟩] := by decide +kernel

/-- 2.2: `WRALL 0, 4095`: FC←FF is the third write. -/
theorem test_wrall_third :
    (next (exec (.wrall 0 4095) (running (ctxOf (.wrall 0 4095) 2 .ok) true (oks 1)))).trace =
      [.write 0 0x40 0xFC 0xFF .ok] := by decide +kernel

/-- 2.3: `SETPIN 10, ON`: 2F←10 is the second write. -/
theorem test_setpin_second :
    (next (exec (.setpin 10 .on) (running (ctxOf (.setpin 10 .on) 1 .ok) true (oks 1)))).trace =
      [.write 0 0x40 0x2F 0x10 .ok] := by decide +kernel

/-- 2.3: `SETPIN 9, ON` with 2A [err]: TRANSPORT. -/
theorem test_setpin_transport :
    (next (exec (.setpin 9 .on) (running (ctxOf (.setpin 9 .on) 1 .err)))).trace =
      [.respond 0 ⟨.transport, .none⟩] := by decide +kernel

/-- 2.4: `SETFREQ 238/10`: `fault PRESCALE_RANGE`, no transaction, no response, `busy` stays 1 (R206). -/
theorem test_setfreq_fault :
    (next (exec (.setfreq 238 10) (running (ctxOf (.setfreq 238 10) 0 .nothing)))).trace = [.fault 0 .prescaleRange] ∧
    (next (exec (.setfreq 238 10) (running (ctxOf (.setfreq 238 10) 0 .nothing)))).ports =
      [⟨true, none, none⟩, Port.reset] := by decide +kernel

/-- 2.4: `SETFREQ 1600`, old = 0x81: 00←11 follows the read. -/
theorem test_setfreq_sleep :
    (next (exec (.setfreq 1600 1) (running (ctxOf (.setfreq 1600 1) 1 (.okByte 0x81)) true (oks 1)))).trace =
      [.write 0 0x40 0x00 0x11 .ok] := by decide +kernel

/-- 2.4: GETFREQ, R FE →03: OK {3, 390625/256}. -/
theorem test_getfreq :
    (next (exec .getfreq (running (ctxOf .getfreq 1 (.okByte 0x03))))).trace =
      [.respond 0 ⟨.ok, .prescaleFreq 0x03 (390625 / 256)⟩] := by decide +kernel

/-- 2.5: SWRESET with `ready` = 0: S 00 ←00, `ready` unchanged. -/
theorem test_swreset :
    (next (exec .swreset (running (ctxOf .swreset 0 .nothing) false (oks 1)))).trace = [.send 0 0x00 0x00 .ok] := by
  decide +kernel

/-- L1.6: `SETSTR 1/2`: 29←07 is the fourth write. -/
theorem test_setstr_fourth :
    (next (exec (.setstr 1 2) (running { ctxOf (.setstr 1 2) 3 .ok with duty := 2047 } true (oks 1)))).trace =
      [.write 0 0x40 0x29 0x07 .ok] := by decide +kernel

/-- 2.6: after its eight writes `SETSTR 1/2` sets `throttle` to 1/2. -/
theorem test_setstr_throttle :
    (next (exec (.setstr 1 2) (running (ctxOf (.setstr 1 2) 8 .ok)))).throttle = 1 / 2 := by decide +kernel

/-- 2.7: `COILS 1,0,0,0` drives channel 9 On: 2B←10 is the second write. -/
theorem test_coils_second :
    (next (exec (.coils 0b0001) (running (ctxOf (.coils 0b0001) 1 .ok) true (oks 1)))).trace =
      [.write 0 0x40 0x2B 0x10 .ok] := by decide +kernel

/-- 2.7: IDLE drives channel 12 Off last: 39←10 is the sixteenth write. -/
theorem test_idle_last_write :
    (next (exec .idle (running (ctxOf .idle 15 .ok) true (oks 1)))).trace = [.write 0 0x40 0x39 0x10 .ok] := by
  decide +kernel

/-- P2: `STEP FWD, 4` from index 0 at t = 100: index 1, channel 9 Off first. -/
theorem test_step_first :
    (next (exec (.step .forward 4) (running (ctxOf (.step .forward 4) 0 .nothing) true (oks 1 [100])))).trace =
      [.clock 0 100, .write 0 0x40 0x2A 0x00 .ok] ∧
    (next (exec (.step .forward 4) (running (ctxOf (.step .forward 4) 0 .nothing) true (oks 1 [100])))).stepIndex = 1 := by
  decide +kernel

/-- 2.9: an iteration with t_s = 0, t_e = 3 and interval 10 waits until 10. -/
theorem test_step_wait :
    (next (exec (.step .forward 4) (running { ctxOf (.step .forward 4) 16 .ok with count := 4, tFirst := some 0 } true
      (oks 0 [3])))).trace = [.clock 0 3, .wait 0 10] := by decide +kernel

/-- 2.9: STOP while Idle: OK, `cancel` stays 0. -/
theorem test_stop_idle :
    (next (exec .stop (running (ctxOf .stop 0 .nothing)))).trace = [.respond 0 ⟨.ok, .none⟩] ∧
    (next (exec .stop (running (ctxOf .stop 0 .nothing)))).cancel = false := by decide +kernel

/-- R185: STOP while Stepping sets `cancel`. -/
theorem test_stop_stepping :
    (next (exec .stop { running (ctxOf .stop 0 .nothing) with seqState := .stepping })).cancel = true := by
  decide +kernel

/-! ### Steps of the block -/

/-- R70: an accepted word makes the port busy; R92: an illegal word is answered in segment 1. -/
theorem test_step_accepts :
    (next (step { State.reset with env := { Env.reset with turns := [.offer 1 0x1400000000000000] } })).trace =
      [.accept 1 0x1400000000000000] := by decide +kernel
theorem test_step_illegal :
    (next (step (State.reset.withFetchWord 64 0x1500000000000000))).trace = [.respond 0 ⟨.illegalCommand, .none⟩] := by
  decide +kernel

/-- The word loaded by `withFetchWord` runs in the very next step: after reset a gated command is NOT_READY (R202). -/
theorem test_fetch_word :
    (next (step (State.reset.withFetchWord 64 0x1200000000000000))).trace = [.respond 0 ⟨.notReady, .none⟩] := by
  decide +kernel

/-- R42: the reset values, and R207: the example configuration is not refused. -/
theorem test_reset : State.reset.ready = false ∧ State.reset.throttle = 1 ∧ State.reset.refused = false ∧
    State.reset.ports.length = 2 := by decide +kernel

/-- R223, R222: a broadcast of (0, 0) forces channel 15 low; a per-channel (0, 0) after it is the channel's own pair; a
sentinel pair is always off; a channel of which nothing is known. -/
theorem test_chip_view :
    (Chip.ofTrace exampleParams Chip.unknown (writeEvents 0 0x40 (groupWrites 0xFA 0 0))).channel 15 = .forcedLow ∧
    (Chip.ofTrace exampleParams Chip.unknown
      (writeEvents 0 0x40 (groupWrites 0xFA 0 0 ++ groupWrites 0x42 0 0))).channel 15 = .ticks 0 0 ∧
    (Chip.ofTrace exampleParams Chip.unknown (writeEvents 0 0x40 (groupWrites 0x42 0 4096))).channel 15 = .alwaysOff ∧
    Chip.unknown.channel 3 = .unknown := by decide +kernel

/-- N19, R222: both sentinel bits set, with 0xFF below one of them; that value beside a counter position; 4096 beside
one. -/
theorem test_drive_of_pair :
    Drive.ofPair 0x10FF 4096 = .bothSentinels ∧ Drive.ofPair 4096 4096 = .bothSentinels ∧
    Drive.ofPair 0x10FF 0 = .unknown ∧ Drive.ofPair 4096 4095 = .alwaysOn ∧ Drive.ofPair 4095 4096 = .alwaysOff ∧
    Drive.ofPair 4095 1 = .ticks 4095 1 := by decide

/-- R224: a PRESCALE write is the chip's while SLEEP is set, and not known to be while it is clear, or below 3 (log
24). -/
theorem test_chip_prescale :
    (Chip.ofTrace exampleParams Chip.unknown (writeEvents 0 0x40 [⟨0x00, 0x11⟩, ⟨0xFE, 0x03⟩])).freq =
      some (390625 / 256) ∧
    (Chip.ofTrace exampleParams Chip.unknown (writeEvents 0 0x40 [⟨0x00, 0x01⟩, ⟨0xFE, 0x03⟩])).freq = none ∧
    (Chip.ofTrace exampleParams Chip.unknown (writeEvents 0 0x40 [⟨0x00, 0x11⟩, ⟨0xFE, 0x02⟩])).freq = none := by
  decide +kernel

/-- R224: SLEEP stops the oscillator; RESTART resumes it once 5 ms have passed since SLEEP was cleared, and nothing is
known of it sooner. -/
theorem test_chip_oscillator :
    (Chip.ofTrace exampleParams Chip.unknown (writeEvents 0 0x40 [⟨0x00, 0x11⟩, ⟨0x00, 0x01⟩] ++
      [.clock 0 20, .clock 0 25] ++ writeEvents 0 0x40 [⟨0x00, 0x81⟩])).asleep = some false ∧
    (Chip.ofTrace exampleParams Chip.unknown (writeEvents 0 0x40 [⟨0x00, 0x11⟩, ⟨0x00, 0x01⟩] ++
      [.clock 0 20, .clock 0 24] ++ writeEvents 0 0x40 [⟨0x00, 0x81⟩])).asleep = none ∧
    (Chip.ofTrace exampleParams Chip.unknown (writeEvents 0 0x40 [⟨0x00, 0x11⟩])).asleep = some true := by
  decide +kernel

/-- R259: SETFREQ at its wait, MODE1 restored with SLEEP clear: the chip is still asleep. -/
theorem test_chip_asleep_before_restart :
    ({ running (ctxOf (.setfreq 1600 1) 5 .nothing) with
      trace := writeEvents 0 0x40 [⟨0x00, 0x11⟩, ⟨0xFE, 0x03⟩, ⟨0x00, 0x01⟩] }).chipAsleep = some true := by
  decide +kernel

/-- R74: a register-file device answers a read with the last byte written there. -/
theorem test_register_file :
    registerFileTrace [(0, 0x01)] [.write 0 0x40 0x00 0x11 .ok, .read 0 0x40 0x00 (.ok 0x11)] = true ∧
    registerFileTrace [(0, 0x01)] [.write 0 0x40 0x00 0x11 .ok, .read 0 0x40 0x00 (.ok 0x01)] = false := by decide

/-- R99: the number of an error status. -/
theorem test_status_code : Status.partialWrite.code = 0x03 := by decide

/-! ### Witnesses: each statement's hypotheses are met, clause by clause -/

/-- Any command at any position with any answer and readiness: the context is the running command's. -/
theorem test_witness_context (i : Instr) (pos : Nat) (a : Answer) (r : Bool) (e : Env) :
    (running (ctxOf i pos a) r e).ctx? = some (ctxOf i pos a) ∧ (ctxOf i pos a).pos = pos ∧
    (ctxOf i pos a).answer = a ∧ (running (ctxOf i pos a) r e).ready = r := ⟨rfl, rfl, rfl, rfl⟩

theorem test_witness_DecodeEncodeBijection :
    decode 0x13010000FFFFFFFF = .legal (.step .backward 0xFFFFFFFF) ∧ (Instr.step .backward 0xFFFFFFFF).wf = true ∧
    encode (.step .backward 0xFFFFFFFF) = 0x13010000FFFFFFFF := by decide

theorem test_witness_DecodeAgreesWithOpcodeTable :
    decode 0x0500000640000001 = .legal (.setfreq 1600 1) ∧
    (⟨"SETFREQ", 0x0500000000000000, 0xFF00000000000000⟩ : OpRow) ∈ opcodeTable ∧
    (⟨"SETFREQ", 0x0500000000000000, 0xFF00000000000000⟩ : OpRow).matches 0x0500000640000001 = true ∧
    field 0x0500000640000001 0 24 ≠ 0 := by decide

theorem test_witness_IllegalWordsAreTheThreeCases :
    (opcode 0x1500000000000000 ∉
      [0x01#8, 0x02#8, 0x03#8, 0x04#8, 0x05#8, 0x06#8, 0x07#8, 0x10#8, 0x11#8, 0x12#8, 0x13#8, 0x14#8]) ∧
    (opcode 0x1480000000000000 = 0x14#8 ∧ field 0x1480000000000000 0 56 ≠ 0) ∧
    (opcode 0x0200000000008000 = 0x02#8 ∧ field 0x0200000000008000 0 16 ≠ 0) ∧
    (opcode 0x0380000000000000 = 0x03#8 ∧ field 0x0380000000000000 48 8 ≠ 0) ∧
    (opcode 0x0400800000000000 = 0x04#8 ∧ field 0x0400800000000000 1 47 ≠ 0) ∧
    (opcode 0x1100000000000010 = 0x11#8 ∧ field 0x1100000000000010 4 52 ≠ 0) ∧
    (opcode 0x1302000000000000 = 0x13#8 ∧ field 0x1302000000000000 49 7 ≠ 0) ∧
    (opcode 0x1300000100000000 = 0x13#8 ∧ field 0x1300000100000000 32 16 ≠ 0) ∧
    (opcode 0x1000000001000000 = 0x10#8 ∧ field 0x1000000001000000 0 24 = 0) := by decide

/-- A decoded command, an undecoded one, and a loaded word. -/
theorem test_witness_StepRunsTheDecodedSegment :
    (running (ctxOf .stop 0 .nothing) true ⟨[.run 0], [], [], [], 0⟩).env.turns = .run 0 :: [] ∧
    (running (ctxOf .stop 0 .nothing)).ctxAt 0 = some (ctxOf .stop 0 .nothing) ∧
    (ctxOf .stop 0 .nothing).cmd = some .stop ∧
    (running (Ctx.fresh 0x1400000000000000)).ctxAt 0 = some (Ctx.fresh 0x1400000000000000) ∧
    (Ctx.fresh 0x1400000000000000).cmd = none ∧ decode (Ctx.fresh 0x1400000000000000).word = .legal .stop ∧
    State.reset.ports ≠ [] ∧ decodeTableWord 64 0x1400000000000000 = some .stop :=
  ⟨rfl, rfl, rfl, rfl, rfl, by decide, by decide, by decide⟩

theorem test_witness_IllegalWordIsAnsweredInSegmentOne :
    (running (Ctx.fresh 0x1500000000000000) true ⟨[.run 0], [], [], [], 0⟩).env.turns = .run 0 :: [] ∧
    (running (Ctx.fresh 0x1500000000000000)).ctxAt 0 = some (Ctx.fresh 0x1500000000000000) ∧
    (Ctx.fresh 0x1500000000000000).cmd = none ∧
    decode (Ctx.fresh 0x1500000000000000).word = .illegal .unknownOpcode ∧
    decode 0x0100000000000001 = .illegal .reservedNotZero ∧ decode 0x0500000640000000 = .illegal .zeroDenominator :=
  ⟨rfl, rfl, rfl, by decide, by decide, by decide⟩

/-- Port 1 is idle; port 0 is busy; port 2 does not exist; a refused block. -/
theorem test_witness_OffersAreAcceptedWhenIdle :
    (running (ctxOf .stop 0 .nothing) true ⟨[.offer 1 0], [], [], [], 0⟩).env.turns = .offer 1 0 :: [] ∧
    (∃ q, (running (ctxOf .stop 0 .nothing)).ports[1]? = some q ∧ q.busy = false) ∧
    (running (ctxOf .stop 0 .nothing)).refused = false ∧
    ¬(∃ q, (running (ctxOf .stop 0 .nothing)).ports[0]? = some q ∧ q.busy = false) ∧
    (running (ctxOf .stop 0 .nothing)).ports[2]? = none ∧
    (State.resetWith { exampleParams with numPorts := 0 } 0).refused = true :=
  ⟨rfl, ⟨Port.reset, rfl, rfl⟩, by decide +kernel, by simp [running], rfl, by decide +kernel⟩

theorem test_witness_FreeScheduleRunsSomeEnabledPort :
    State.reset.env.turns = [] ∧ (∀ p, State.reset.enabled p = false) ∧
    (running (ctxOf .stop 0 .nothing)).env.turns = [] ∧ (∃ p, (running (ctxOf .stop 0 .nothing)).enabled p = true) := by
  refine ⟨rfl, fun p => ?_, rfl, 0, rfl⟩
  match p with
  | 0 => rfl
  | 1 => rfl
  | _ + 2 => rfl

theorem test_witness_StepMakesAtMostOneTransaction : step State.reset = .next State.reset := rfl

/-- The earliest admissible reading is the last one again (R219). -/
theorem test_witness_ReadClockIsMonotone :
    State.reset.lastClock ≤ 0 ∧ (0 : Rat) ≤ 0 ∧ (running (ctxOf .init 6 .ok) true (oks 0 [0])).env.clocks = 0 :: [] :=
  ⟨by decide +kernel, le_rfl, rfl⟩

/-- A resume draw at the deadline itself (R220). -/
theorem test_witness_WaitsAreLowerBounds :
    (running { ctxOf .init 7 .nothing with deadline := some 5 } true (oks 0 [5])).ctx? =
      some { ctxOf .init 7 .nothing with deadline := some 5 } ∧
    ({ ctxOf .init 7 .nothing with deadline := some 5 } : Ctx).deadline = some 5 ∧ (5 : Rat) ≤ 5 ∧
    (running (ctxOf .init 7 .nothing) true (oks 0 [5])).lastClock ≤ 5 ∧ (0 : Rat) ≤ 5 ∧
    (running (ctxOf .init 7 .nothing) true (oks 0 [5])).env.clocks = 5 :: [] :=
  ⟨rfl, rfl, le_rfl, by decide +kernel, by decide +kernel, rfl⟩

theorem test_witness_BusPrimitivesAreExact :
    (running (ctxOf .getfreq 0 .nothing)).ctx? = some (ctxOf .getfreq 0 .nothing) := rfl

theorem test_witness_PureFunctions :
    4096 ≤ 4096 ∧ 7 < 8 ∧ (0 < 1 ∧ 0 < 1) ∧ (0 : Rat) < 24 ∧ (-1 : Int) ≤ -1 ∧ (0xFE : Byte) < 0xFF := by
  decide +kernel

/-- INIT: every position with an answer that is not `err`, the bytes read at 8 and 11. -/
theorem test_witness_InitSegments :
    (∀ k, (running (ctxOf .init k .ok)).ctx? = some (ctxOf .init k .ok) ∧ (ctxOf .init k .ok).pos = k ∧
      (ctxOf .init k .ok).answer ≠ .err) ∧
    (∀ k, (running (ctxOf .init k (.okByte 0xFF))).ctx? = some (ctxOf .init k (.okByte 0xFF)) ∧
      (ctxOf .init k (.okByte 0xFF)).pos = k ∧ (ctxOf .init k (.okByte 0xFF)).answer = .okByte 0xFF) :=
  ⟨fun _ => ⟨rfl, rfl, nofun⟩, fun _ => ⟨rfl, rfl, rfl⟩⟩

/-- A command that is one list of writes: each readiness, each position, an answer that is not `err`; operands at and
past their bounds. -/
theorem test_witness_WrchSegments :
    (∀ i k r, (running (ctxOf i k .ok) r).ctx? = some (ctxOf i k .ok) ∧ (ctxOf i k .ok).pos = k ∧
      (running (ctxOf i k .ok) r).ready = r ∧ (ctxOf i k .ok).answer ≠ .err) ∧
    ((15#8).toNat < 16 ∧ (4095#16).toNat ≤ 4095 ∧ (4095#16).toNat ≤ 4095) ∧
    ¬((16#8).toNat < 16 ∧ (0#16).toNat ≤ 4095 ∧ (0#16).toNat ≤ 4095) ∧
    ¬((0#8).toNat < 16 ∧ (4096#16).toNat ≤ 4095 ∧ (0#16).toNat ≤ 4095) ∧
    ¬((0#8).toNat < 16 ∧ (0#16).toNat ≤ 4095 ∧ (4096#16).toNat ≤ 4095) :=
  ⟨fun _ _ _ => ⟨rfl, rfl, rfl, nofun⟩, by decide, by decide, by decide, by decide⟩

theorem test_witness_WrallSegments :
    (∀ i k r, (running (ctxOf i k .ok) r).ctx? = some (ctxOf i k .ok) ∧ (ctxOf i k .ok).pos = k ∧
      (running (ctxOf i k .ok) r).ready = r ∧ (ctxOf i k .ok).answer ≠ .err) ∧
    ((4095#16).toNat ≤ 4095 ∧ (4095#16).toNat ≤ 4095) ∧ ¬((4096#16).toNat ≤ 4095 ∧ (0#16).toNat ≤ 4095) :=
  ⟨fun _ _ _ => ⟨rfl, rfl, rfl, nofun⟩, by decide, by decide⟩

theorem test_witness_SetpinSegments :
    (∀ i k r, (running (ctxOf i k .ok) r).ctx? = some (ctxOf i k .ok) ∧ (ctxOf i k .ok).pos = k ∧
      (running (ctxOf i k .ok) r).ready = r ∧ (ctxOf i k .ok).answer ≠ .err) ∧ 16 ≤ (16#8).toNat ∧ (15#8).toNat < 16 :=
  ⟨fun _ _ _ => ⟨rfl, rfl, rfl, nofun⟩, by decide, by decide⟩

/-- SETFREQ at both ends of the prescale's range: 12210 Hz gives 0, and 50,000,000/(4095 · 511) Hz gives 255. -/
theorem test_witness_SetfreqSegments :
    (∀ i k a r, (running (ctxOf i k a) r).ctx? = some (ctxOf i k a) ∧ (ctxOf i k a).pos = k ∧
      (ctxOf i k a).answer = a ∧ (running (ctxOf i k a) r).ready = r) ∧
    (0 = prescaleOf (((12210#32).toNat : Rat) / ((1#24).toNat : Rat)) ∧ 12210#32 ≠ 0) ∧
    (255 = prescaleOf (((50000000#32).toNat : Rat) / ((2092545#24).toNat : Rat)) ∧ 50000000#32 ≠ 0) ∧
    Answer.ok ≠ .err :=
  ⟨fun _ _ _ _ => ⟨rfl, rfl, rfl, rfl⟩, by decide +kernel, by decide +kernel, by decide⟩

theorem test_witness_GetfreqAndSwresetSegments :
    ∀ i k a r, (running (ctxOf i k a) r).ctx? = some (ctxOf i k a) ∧ (ctxOf i k a).pos = k ∧
      (ctxOf i k a).answer = a ∧ (running (ctxOf i k a) r).ready = r := fun _ _ _ _ => ⟨rfl, rfl, rfl, rfl⟩

/-- SETSTR at and past both ends of the duty's range. -/
theorem test_witness_SetstrSegments :
    (∀ i k r, (running (ctxOf i k .ok) r).ctx? = some (ctxOf i k .ok) ∧ (ctxOf i k .ok).pos = k ∧
      (running (ctxOf i k .ok) r).ready = r ∧ (ctxOf i k .ok).answer ≠ .err) ∧
    dutyOf (((0#32).toInt : Rat) / ((1#24).toNat : Rat)) = 0 ∧
    dutyOf (((8191#32).toInt : Rat) / ((8190#24).toNat : Rat)) = 4095 ∧
    dutyOf (((0xFFFFFFFF#32).toInt : Rat) / ((8190#24).toNat : Rat)) = -1 ∧
    dutyOf (((4096#32).toInt : Rat) / ((4095#24).toNat : Rat)) = 4096 :=
  ⟨fun _ _ _ => ⟨rfl, rfl, rfl, nofun⟩, by decide +kernel, by decide +kernel, by decide +kernel, by decide +kernel⟩

theorem test_witness_CoilsAndIdleSegments :
    (∀ i k r, (running (ctxOf i k .ok) r).ctx? = some (ctxOf i k .ok) ∧ (ctxOf i k .ok).pos = k ∧
      (running (ctxOf i k .ok) r).ready = r ∧ (ctxOf i k .ok).answer ≠ .err) ∧
    (Instr.idle = .idle ∧ (0 : CoilState) = 0) ∧
    (coilWrites exampleParams.wiring 0b0001)[0]? = some ⟨0x2A, 0x00⟩ ∧
    (coilWrites exampleParams.wiring 0)[1]? = some ⟨0x2B, 0x00⟩ ∧
    (coilWrites exampleParams.wiring 0)[15]? = some ⟨0x39, 0x10⟩ :=
  ⟨fun _ _ _ => ⟨rfl, rfl, rfl, nofun⟩, by decide, by decide, by decide, by decide⟩

/-- STEP's segment 1: not ready; a loop running; an update in flight; COUNT = 0; COUNT at both ends. -/
theorem test_witness_StepAcceptance :
    (∀ i r, (running (ctxOf i 0 .nothing) r).ctx? = some (ctxOf i 0 .nothing) ∧ (ctxOf i 0 .nothing).pos = 0 ∧
      (running (ctxOf i 0 .nothing) r).ready = r ∧ (running (ctxOf i 0 .nothing) r).seqState = .idle ∧
      (running (ctxOf i 0 .nothing) r).pulsing = false) ∧
    ({ running (ctxOf .stop 0 .nothing) with seqState := .stepping }).seqState = .stepping ∧
    ({ running (ctxOf .stop 0 .nothing) with pulsing := true }).pulsing = true ∧
    (0 : BitVec 32) = 0 ∧ (1 : BitVec 32) ≠ 0 ∧ (0xFFFFFFFF : BitVec 32) ≠ 0 :=
  ⟨fun _ _ => ⟨rfl, rfl, rfl, rfl, rfl⟩, rfl, rfl, rfl, by decide, by decide⟩

/-- A later write; and a measurement just below the interval of 10 ms. -/
theorem test_witness_StepIterationSegments :
    (∀ i k e, (running (ctxOf i k .ok) true e).ctx? = some (ctxOf i k .ok) ∧ (ctxOf i k .ok).pos = k ∧
      (ctxOf i k .ok).answer ≠ .err) ∧
    (coilWrites exampleParams.wiring exampleParams.coilTable[(0 : Fin 4)])[1]? = some ⟨0x2B, 0x10⟩ ∧
    (coilWrites exampleParams.wiring exampleParams.coilTable[(0 : Fin 4)])[15]? = some ⟨0x39, 0x10⟩ ∧
    (running (ctxOf (.step .forward 1) 16 .ok) true (oks 0 [9])).readClock.lastClock -
      (ctxOf (.step .forward 1) 16 .ok).tS < 1000 / exampleParams.pulsesPerSecond :=
  ⟨fun _ _ _ => ⟨rfl, rfl, nofun⟩, by decide, by decide, by decide +kernel⟩

/-- The context of a step loop in its first iteration. -/
def loopCtx (pos : Nat) (count : BitVec 32) : Ctx :=
  { ctxOf (.step .forward count) pos .ok with count := count, tFirst := some 0, deadline := some 10 }

/-- The end of the only iteration, the end of one of two, and the same with a cancel request; after the wait, and at
once with exactly the interval elapsed. -/
theorem test_witness_StepIterationEnds :
    (∀ k n e, (running (loopCtx k n) true e).ctx? = some (loopCtx k n) ∧ (loopCtx k n).tFirst = some 0 ∧
      (loopCtx k n).pos = k ∧ (loopCtx k n).answer ≠ .err) ∧
    ((running (loopCtx 17 1) true (oks 0 [10])).resume (loopCtx 17 1)).lastClock = 10 ∧
    (running (loopCtx 16 1) true (oks 0 [10])).readClock.lastClock = 10 ∧
    1000 / exampleParams.pulsesPerSecond ≤ 10 - (loopCtx 16 1).tS ∧
    (loopCtx 17 2).i + 1 < (loopCtx 17 2).count.toNat ∧ (loopCtx 17 1).i + 1 = (loopCtx 17 1).count.toNat ∧
    (running (loopCtx 17 2)).cancel = false ∧ ({ running (loopCtx 17 2) with cancel := true }).cancel = true :=
  ⟨fun _ _ _ => ⟨rfl, rfl, rfl, nofun⟩, by decide +kernel, by decide +kernel, by decide +kernel, by decide, by decide, rfl, rfl⟩

theorem test_witness_StopSetsCancelOnlyWhileStepping :
    (running (ctxOf .stop 0 .nothing)).ctx? = some (ctxOf .stop 0 .nothing) := rfl

theorem test_witness_GatedCommandsNeedReady :
    (running (ctxOf .getfreq 0 .nothing) false).ctx? = some (ctxOf .getfreq 0 .nothing) ∧
    (ctxOf .getfreq 0 .nothing).pos = 0 ∧ (running (ctxOf .getfreq 0 .nothing) false).ready = false ∧
    Instr.getfreq.needsReady = true ∧ Instr.stop.needsReady = false ∧
    exec .stop { running (ctxOf .stop 0 .nothing) with trace := [.respond 1 ⟨.notReady, .none⟩] } =
      .next (next (exec .stop { running (ctxOf .stop 0 .nothing) with trace := [.respond 1 ⟨.notReady, .none⟩] })) ∧
    Event.respond 1 ⟨.notReady, .none⟩ ∈
      (next (exec .stop { running (ctxOf .stop 0 .nothing) with trace := [.respond 1 ⟨.notReady, .none⟩] })).trace :=
  ⟨rfl, rfl, rfl, rfl, rfl, rfl, by decide +kernel⟩

/-- A command in flight; and INIT, SWRESET and STOP at their first segment. -/
theorem test_witness_ReadyIsCheckedOnlyAtAcceptance :
    (running (ctxOf .getfreq 1 (.okByte 3))).ctx? = some (ctxOf .getfreq 1 (.okByte 3)) ∧
    (ctxOf .getfreq 1 (.okByte 3)).pos ≠ 0 ∧ Instr.getfreq ≠ .init ∧
    exec .getfreq (running (ctxOf .getfreq 1 (.okByte 3))) =
      .next (next (exec .getfreq (running (ctxOf .getfreq 1 (.okByte 3))))) ∧
    (∀ i, i = Instr.init ∨ i = .swreset ∨ i = .stop → i.needsReady = false ∧
      exec i (running (ctxOf i 0 .nothing)) = .next (next (exec i (running (ctxOf i 0 .nothing))))) := by
  refine ⟨rfl, by decide, by decide, rfl, ?_⟩
  rintro i (rfl | rfl | rfl) <;> exact ⟨rfl, rfl⟩

theorem test_witness_StepContentionChangesNothing :
    ({ running (ctxOf (.step .forward 1) 0 .nothing) with pulsing := true }).ctx? =
      some (ctxOf (.step .forward 1) 0 .nothing) ∧ (ctxOf (.step .forward 1) 0 .nothing).pos = 0 ∧
    ({ running (ctxOf (.step .forward 1) 0 .nothing) with pulsing := true }).ready = true ∧
    (({ running (ctxOf (.step .forward 1) 0 .nothing) with pulsing := true }).seqState = .stepping ∨
      ({ running (ctxOf (.step .forward 1) 0 .nothing) with pulsing := true }).pulsing = true) :=
  ⟨rfl, rfl, rfl, .inr rfl⟩

theorem test_witness_ValidationErrorsChangeNothing :
    (∀ i, (running (ctxOf i 0 .nothing)).ctx? = some (ctxOf i 0 .nothing) ∧ (ctxOf i 0 .nothing).pos = 0 ∧
      (running (ctxOf i 0 .nothing)).ready = true) ∧
    16 ≤ (16#8).toNat ∧ 4095 < (4096#16).toNat ∧ dutyOf (strOperand 0xFFFFFFFF 8190) < 0 ∧
    4095 < dutyOf (strOperand 4096 4095) :=
  ⟨fun _ => ⟨rfl, rfl, rfl⟩, by decide, by decide, by decide +kernel, by decide +kernel⟩

/-- SETFREQ 0; just too fast, 12211 Hz; just too slow, at the quotient 256.5 itself; a state that has a mark; and a
port whose command faulted. -/
theorem test_witness_SetfreqFaultsOutsideItsRange :
    (∀ i, (running (ctxOf i 0 .nothing)).ctx? = some (ctxOf i 0 .nothing) ∧ (ctxOf i 0 .nothing).pos = 0 ∧
      (running (ctxOf i 0 .nothing)).ready = true) ∧ (1 : BitVec 24) ≠ 0 ∧ (0 : BitVec 32) = 0 ∧
    (12211 : BitVec 32) ≠ 0 ∧ ¬(0 ≤ prescaleOf (((12211 : BitVec 32).toNat : Rat) / ((1 : BitVec 24).toNat : Rat))) ∧
    (50000000 : BitVec 32) ≠ 0 ∧ (2100735 : BitVec 24) ≠ 0 ∧
    ¬(prescaleOf (((50000000 : BitVec 32).toNat : Rat) / ((2100735 : BitVec 24).toNat : Rat)) ≤ 255) ∧
    step { State.reset with faulted := ⟨true, false⟩ } = .next { State.reset with faulted := ⟨true, false⟩ } ∧
    ({ State.reset with faulted := ⟨true, false⟩ }).faulted.has .freqNonpositive = true ∧
    ({ State.reset with ports := [⟨true, none, none⟩] }).ports[0]? = some ⟨true, none, none⟩ ∧
    step { State.reset with ports := [⟨true, none, none⟩] } = .next { State.reset with ports := [⟨true, none, none⟩] } :=
  ⟨fun _ => ⟨rfl, rfl, rfl⟩, by decide, rfl, by decide, by decide +kernel, by decide, by decide, by decide +kernel, rfl,
    rfl, rfl, rfl⟩

/-- The last position of a command, with and without an earlier success. -/
theorem test_witness_TransportFailureEndsTheCommand :
    (∀ i k, (running (ctxOf i k .err)).ctx? = some (ctxOf i k .err) ∧ (ctxOf i k .err).pos = k ∧
      (ctxOf i k .err).answer = .err) ∧
    Instr.init.afterTransaction 11 = true ∧ (Instr.wrch 0 0 0).afterTransaction 1 = true ∧
    (Instr.wrall 0 0).afterTransaction 4 = true ∧ (Instr.setpin 0 .on).afterTransaction 4 = true ∧
    (Instr.setfreq 50 1).afterTransaction 6 = true ∧ Instr.getfreq.afterTransaction 1 = true ∧
    Instr.swreset.afterTransaction 1 = true ∧ (Instr.setstr 1 2).afterTransaction 8 = true ∧
    (Instr.coils 5).afterTransaction 16 = true ∧ Instr.idle.afterTransaction 1 = true ∧
    (Instr.step .forward 1).afterTransaction 16 = true :=
  ⟨fun _ _ => ⟨rfl, rfl, rfl⟩, by decide⟩

theorem test_witness_SegmentsKeepTheirFrame :
    exec .getfreq (running (ctxOf .getfreq 0 .nothing)) =
      .next (next (exec .getfreq (running (ctxOf .getfreq 0 .nothing)))) ∧ Instr.getfreq.isInit = false ∧
    Instr.getfreq.isStep = false ∧ Instr.getfreq.isSetstr = false ∧ Instr.getfreq.updatesCoils = false ∧
    Instr.getfreq.isStop = false ∧ Instr.getfreq.isSetfreq = false ∧
    exec .getfreq { running (ctxOf .getfreq 0 .nothing) with faulted := ⟨true, true⟩ } =
      .next (next (exec .getfreq { running (ctxOf .getfreq 0 .nothing) with faulted := ⟨true, true⟩ })) :=
  ⟨rfl, rfl, rfl, rfl, rfl, rfl, rfl, rfl⟩

theorem test_witness_GroupCommandsWriteFourBytes :
    (∀ i, (running (ctxOf i 0 .nothing) true (oks 4)).ctx? = some (ctxOf i 0 .nothing) ∧
      (ctxOf i 0 .nothing).pos = 0 ∧ (running (ctxOf i 0 .nothing) true (oks 4)).ready = true ∧
      (running (ctxOf i 0 .nothing) true (oks 4)).env.acks = List.replicate 4 .ok ++ []) ∧
    (Instr.wrch 15 4095 0).operandsValid = true ∧ (Instr.wrall 0 4095).operandsValid = true ∧
    (Instr.setpin 15 .on).operandsValid = true ∧ (Instr.setpin 0 .off).operandsValid = true :=
  ⟨fun _ => ⟨rfl, rfl, rfl, rfl⟩, by decide +kernel, by decide +kernel, by decide, by decide⟩

/-- P1's oracle: MODE1 = 0x01, PRESCALE = 0x1E, clock draws 0, 5, 5, 10: each wait ends at its deadline; the first and
the last segment before the response. -/
theorem test_witness_InitRunsTheHandshake :
    (running (ctxOf .init 0 .nothing) false (oks 7 [0, 5, 5, 10] [.ok 0x01, .ok 0x1E])).ctx? =
      some (ctxOf .init 0 .nothing) ∧ (ctxOf .init 0 .nothing).pos = 0 ∧
    (oks 7 [0, 5, 5, 10] [.ok 0x01, .ok 0x1E]).acks = List.replicate 7 .ok ++ [] ∧
    (oks 7 [0, 5, 5, 10] [.ok 0x01, .ok 0x1E]).reads = .ok 0x01 :: .ok 0x1E :: [] ∧
    (oks 7 [0, 5, 5, 10] [.ok 0x01, .ok 0x1E]).clocks = 0 :: 5 :: 5 :: 10 :: [] ∧
    (0 : Rat) ≤ (running (ctxOf .init 0 .nothing)).lastClock ∧ (running (ctxOf .init 0 .nothing)).lastClock ≤ 0 ∧
    (0 : Rat) + 5 ≤ 5 ∧ (5 : Rat) ≤ 5 ∧ (5 : Rat) + 5 ≤ 10 ∧ (1 ≤ 1 ∧ 1 < 12) ∧ (1 ≤ 11 ∧ 11 < 12) :=
  ⟨rfl, rfl, rfl, rfl, rfl, by decide +kernel, by decide +kernel, by decide +kernel, by decide +kernel, by decide +kernel,
    by decide, by decide⟩

/-- Prescale 255 and the earliest resume. -/
theorem test_witness_SetfreqRunsTheSequence :
    (running (ctxOf (.setfreq 50000000 2092545) 0 .nothing) true (oks 4 [20, 25] [.ok 0x01])).ctx? =
      some (ctxOf (.setfreq 50000000 2092545) 0 .nothing) ∧ (ctxOf (.setfreq 50000000 2092545) 0 .nothing).pos = 0 ∧
    (running (ctxOf (.setfreq 50000000 2092545) 0 .nothing)).ready = true ∧ (50000000 : BitVec 32) ≠ 0 ∧
    prescaleOf (((50000000 : BitVec 32).toNat : Rat) / ((2092545 : BitVec 24).toNat : Rat)) = (255 : Nat) ∧ 255 ≤ 255 ∧
    (oks 4 [20, 25] [.ok 0x01]).acks = List.replicate 4 .ok ++ [] ∧ (oks 4 [20, 25] [.ok 0x01]).reads = .ok 0x01 :: [] ∧
    (oks 4 [20, 25] [.ok 0x01]).clocks = 20 :: 25 :: [] ∧
    (0 : Rat) ≤ (running (ctxOf (.setfreq 50000000 2092545) 0 .nothing)).lastClock ∧
    (running (ctxOf (.setfreq 50000000 2092545) 0 .nothing)).lastClock ≤ 20 ∧ (20 : Rat) + 5 ≤ 25 :=
  ⟨rfl, rfl, rfl, by decide, by decide +kernel, le_rfl, rfl, rfl, rfl, by decide +kernel, by decide +kernel,
    by decide +kernel⟩

theorem test_witness_SetstrWritesBothWindings :
    (running (ctxOf (.setstr 8191 8190) 0 .nothing) true (oks 8)).ctx? = some (ctxOf (.setstr 8191 8190) 0 .nothing) ∧
    (ctxOf (.setstr 8191 8190) 0 .nothing).pos = 0 ∧ (running (ctxOf (.setstr 8191 8190) 0 .nothing)).ready = true ∧
    dutyOf (((8191 : BitVec 32).toInt : Rat) / ((8190 : BitVec 24).toNat : Rat)) = (4095 : Nat) ∧ 4095 ≤ 4095 ∧
    (oks 8).acks = List.replicate 8 .ok ++ [] :=
  ⟨rfl, rfl, rfl, by decide +kernel, le_rfl, rfl⟩

theorem test_witness_CoilUpdatesWriteSixteenBytes :
    (Instr.coils 5 = .coils 5) ∧ (Instr.idle = .idle ∧ (0 : CoilState) = 0) ∧
    (running (ctxOf .idle 0 .nothing) true (oks 16)).ctx? = some (ctxOf .idle 0 .nothing) ∧
    (ctxOf .idle 0 .nothing).pos = 0 ∧ (running (ctxOf .idle 0 .nothing) true (oks 16)).ready = true ∧
    (oks 16).acks = List.replicate 16 .ok ++ [] := ⟨rfl, ⟨rfl, rfl⟩, rfl, rfl, rfl, rfl⟩

/-- The first write and the last write fail. -/
theorem test_witness_FailedCoilUpdateIsPrecise :
    (running (ctxOf .idle 0 .nothing)).ctx? = some (ctxOf .idle 0 .nothing) ∧ (ctxOf .idle 0 .nothing).pos = 0 ∧
    (ctxOf .idle 0 .nothing).wrote = false ∧ (running (ctxOf .idle 0 .nothing)).ready = true ∧
    (coilWrites exampleParams.wiring 0)[0]? = some ⟨0x2A, 0x00⟩ ∧
    (coilWrites exampleParams.wiring 0)[15]? = some ⟨0x39, 0x10⟩ ∧
    (⟨[], [.err], [], [], 0⟩ : Env).acks = List.replicate 0 .ok ++ .err :: [] ∧
    (⟨[], List.replicate 15 .ok ++ [.err], [], [], 0⟩ : Env).acks = List.replicate 15 .ok ++ .err :: [] :=
  ⟨rfl, rfl, rfl, rfl, by decide, by decide, rfl, rfl⟩

theorem test_witness_StepLoopCompletes :
    (running (ctxOf (.step .forward 4) 0 .nothing) true (oks 64)).ctx? = some (ctxOf (.step .forward 4) 0 .nothing) ∧
    (ctxOf (.step .forward 4) 0 .nothing).pos = 0 ∧
    (running (ctxOf (.step .forward 4) 0 .nothing) true (oks 64)).ready = true ∧
    (running (ctxOf (.step .forward 4) 0 .nothing) true (oks 64)).seqState = .idle ∧
    (running (ctxOf (.step .forward 4) 0 .nothing) true (oks 64)).pulsing = false ∧
    (∀ a ∈ (oks 64).acks, a = Ack.ok) ∧ 16 * (4 : BitVec 32).toNat ≤ (oks 64).acks.length ∧
    16 * (0 : BitVec 32).toNat ≤ (oks 0).acks.length :=
  ⟨rfl, rfl, rfl, rfl, rfl, by decide, by decide, by decide⟩

theorem test_witness_IdleDrivesAllCoilPinsOff :
    (running (ctxOf .idle 0 .nothing) true (oks 16)).params.ok = true ∧
    (running (ctxOf .idle 0 .nothing) true (oks 16)).ctx? = some (ctxOf .idle 0 .nothing) ∧
    (ctxOf .idle 0 .nothing).pos = 0 ∧ (running (ctxOf .idle 0 .nothing) true (oks 16)).ready = true ∧
    (oks 16).acks = List.replicate 16 .ok ++ [] := ⟨by decide +kernel, rfl, rfl, rfl, rfl⟩

theorem test_witness_BadConfigurationsAreRefused :
    (State.resetWith { exampleParams with deviceAddr := 0x80 } 0).refused = true ∧
    (∀ q ∈ (State.resetWith { exampleParams with deviceAddr := 0x80 } 0).ports, q.busy = false ∧ q.ctx = none) ∧
    step (State.resetWith { exampleParams with deviceAddr := 0x80 } 0) =
      .next (State.resetWith { exampleParams with deviceAddr := 0x80 } 0) :=
  ⟨by decide +kernel, by simp [State.resetWith, Port.reset], rfl⟩

theorem test_witness_InvariantHoldsAtReset : (0 : Rat) ≤ 0 := le_rfl

/-- The reset state meets the invariants, with a word offered on port 0, which the step accepts. -/
def offered : State := { State.reset with env := { Env.reset with turns := [.offer 0 0x1400000000000000] } }

theorem offered_inv : offered.Inv where
  portCount := rfl
  refusal := rfl
  clock := le_rfl
  ports q hq := by
    have : q = Port.reset := by simpa [offered, State.reset, State.resetWith, exampleParams] using hq
    subst this
    exact ⟨fun _ => rfl, fun h => by simp [Port.reset] at h, fun c h => by simp [Port.reset] at h⟩
  events e he := by simp [offered, State.reset, State.resetWith] at he

theorem offered_idle (p : Nat) : offered.ctxAt p = none := by
  match p with
  | 0 => rfl
  | 1 => rfl
  | _ + 2 => rfl

theorem offered_modeInv : offered.ModeInv where
  writes es p dev v a rest h := by
    have := congrArg List.length h
    simp [offered, State.reset, State.resetWith] at this
  held p c h := by
    rw [offered_idle] at h
    cases h

theorem test_witness_StepKeepsInvariant :
    offered.Inv ∧ offered.ModeInv ∧ step offered = .next (next (step offered)) ∧
    (next (step offered)).ports.map Port.busy = [true, false] := ⟨offered_inv, offered_modeInv, rfl, by decide +kernel⟩

/-- R117: the sleep byte of a byte the command read is a write it may make; the same byte blind is not. -/
theorem test_mode_write_legal :
    modeWriteLegal 0x40 0 0x11 [.accept 0 0x0500000640000001, .read 0 0x40 0x00 (.ok 0x01)] ∧
    ¬ modeWriteLegal 0x40 0 0x11 [.accept 0 0x0500000640000001] := by
  refine ⟨.inr ⟨0x01, by unfold readsMode1; decide, .inr (.inl (by decide))⟩, ?_⟩
  rintro (⟨h, _⟩ | ⟨b, h, _⟩)
  · exact absurd h (by decide)
  · simp [readsMode1, commandEvents, Event.port, Event.bounds] at h

/-- The same with a response posted on port 1. -/
def answeredOnPort1 : State := { offered with ports := [Port.reset, ⟨false, none, some ⟨.ok, .none⟩⟩] }

theorem answeredOnPort1_inv : answeredOnPort1.Inv where
  portCount := rfl
  refusal := offered_inv.refusal
  clock := offered_inv.clock
  ports q hq := by
    have : q = Port.reset ∨ q = ⟨false, none, some ⟨.ok, .none⟩⟩ := by simpa [answeredOnPort1] using hq
    rcases this with rfl | rfl <;>
      exact ⟨fun _ => rfl, fun h => by simp [Port.reset] at h, fun c h => by simp [Port.reset] at h⟩
  events := offered_inv.events

theorem test_witness_StepLoopsAreExclusive :
    offered.Inv ∧ offered.LoopInv ∧ step offered = .next (next (step offered)) := by
  refine ⟨offered_inv, ⟨fun p q hp _ => ?_, ⟨fun h => ?_, fun ⟨p, hp⟩ => ?_⟩⟩, rfl⟩
  · obtain ⟨c, _, _, h, _⟩ := hp
    rw [offered_idle] at h
    cases h
  · exact absurd h (by decide)
  · obtain ⟨c, _, _, h, _⟩ := hp
    rw [offered_idle] at h
    cases h

theorem test_witness_StepDurationsAreLowerBounded :
    offered.Inv ∧ offered.DurationInv ∧ step offered = .next (next (step offered)) := by
  refine ⟨offered_inv, ⟨fun p c _ _ h => ?_, fun p _ _ _ _ h => ?_⟩, rfl⟩
  · rw [offered_idle] at h
    cases h
  · simp [offered, State.reset, State.resetWith] at h

/-- A busy port, an idle one, a port in range; and a response that stays readable while another port's STOP ends. -/
theorem test_witness_StatusPortAndResponses :
    (running (ctxOf .stop 0 .nothing)).ports[0]? = some ⟨true, some (ctxOf .stop 0 .nothing), none⟩ ∧
    (running (ctxOf .stop 0 .nothing)).ports[1]? = some ⟨false, none, none⟩ ∧
    (running (ctxOf .stop 0 .nothing)).cur < (running (ctxOf .stop 0 .nothing)).ports.length ∧
    answeredOnPort1.Inv ∧ answeredOnPort1.readResponse 1 = some ⟨.ok, .none⟩ ∧
    (∀ w rest, answeredOnPort1.env.turns ≠ .offer 1 w :: rest) ∧
    step answeredOnPort1 = .next (next (step answeredOnPort1)) :=
  ⟨rfl, rfl, by decide, answeredOnPort1_inv, rfl, fun _ _ h => by simp [answeredOnPort1, offered] at h, rfl⟩

/-- (0, 0); a pair that is not; the last channel with the largest ticks. -/
theorem test_witness_BroadcastsOverrideUntilAChannelIsWritten :
    (∀ i, (running (ctxOf i 0 .nothing) true (oks 4)).ctx? = some (ctxOf i 0 .nothing) ∧
      (ctxOf i 0 .nothing).pos = 0 ∧ (running (ctxOf i 0 .nothing) true (oks 4)).ready = true ∧
      (running (ctxOf i 0 .nothing) true (oks 4)).env.acks = List.replicate 4 .ok ++ []) ∧
    (0#16).toNat ≤ 4095 ∧ (4095#16).toNat ≤ 4095 ∧ (15#8).toNat < 16 ∧ 15 < 16 ∧ (0 < 16 ∧ 0 ≠ (15#8).toNat) :=
  ⟨fun _ => ⟨rfl, rfl, rfl, rfl⟩, by decide⟩

/-- Prescale 255, 3 and 2, the earliest resume, and a byte read with SLEEP clear or set. -/
theorem test_witness_SetfreqSleepsUntilItsRestart :
    (∀ old, (running (ctxOf (.setfreq 50000000 2092545) 0 .nothing) true (oks 4 [20, 25] [.ok old])).ctx? =
        some (ctxOf (.setfreq 50000000 2092545) 0 .nothing) ∧
      (oks 4 [20, 25] [.ok old]).acks = List.replicate 4 .ok ++ [] ∧
      (oks 4 [20, 25] [.ok old]).reads = .ok old :: [] ∧ (oks 4 [20, 25] [.ok old]).clocks = 20 :: 25 :: []) ∧
    (ctxOf (.setfreq 50000000 2092545) 0 .nothing).cmd = some (.setfreq 50000000 2092545) ∧
    (ctxOf (.setfreq 50000000 2092545) 0 .nothing).pos = 0 ∧
    (running (ctxOf (.setfreq 50000000 2092545) 0 .nothing)).ready = true ∧ (50000000 : BitVec 32) ≠ 0 ∧
    prescaleOf (((50000000 : BitVec 32).toNat : Rat) / ((2092545 : BitVec 24).toNat : Rat)) = (255 : Nat) ∧ 255 ≤ 255 ∧
    prescaleOf (((1600 : BitVec 32).toNat : Rat) / ((1 : BitVec 24).toNat : Rat)) = (3 : Nat) ∧
    prescaleOf (((2000000 : BitVec 32).toNat : Rat) / ((819 : BitVec 24).toNat : Rat)) = (2 : Nat) ∧
    (0 : Rat) ≤ (running (ctxOf (.setfreq 50000000 2092545) 0 .nothing)).lastClock ∧
    (running (ctxOf (.setfreq 50000000 2092545) 0 .nothing)).lastClock ≤ 20 ∧ (20 : Rat) + 5 ≤ 25 ∧
    (2 ≤ 2 ∧ 2 ≤ 5) ∧ (2 ≤ 5 ∧ 5 ≤ 5) ∧ (0x01 : Byte) &&& 0x10 = 0 ∧ (0x11 : Byte) &&& 0x10 ≠ 0 :=
  ⟨fun _ => ⟨rfl, rfl, rfl, rfl⟩, rfl, rfl, rfl, by decide, by decide +kernel, le_rfl, by decide +kernel,
    by decide +kernel, by decide +kernel, by decide +kernel, by decide +kernel, by decide, by decide, by decide,
    by decide⟩

end Sys2Proof.Tests
end

/-! PROOFS. The statements of 00_scope.md: the bus primitives (R11) and the refusal of a bad configuration (R8,
R207). -/

namespace Sys2Proof

/-! ### The configuration check -/

/-- The one-hot patterns of R162, listed. -/
theorem oneHot_iff_mem (c : CoilState) : oneHot c = true ↔ c ∈ [0b0001#4, 0b0010#4, 0b0100#4, 0b1000#4] := by
  revert c
  decide

/-- The check on COIL_TABLE, entry by entry (R207). -/
theorem coilTable_all_oneHot_iff (t : Vector CoilState 4) :
    t.all oneHot = true ↔ ∀ k : Fin 4, t[k] ∈ [0b0001#4, 0b0010#4, 0b0100#4, 0b1000#4] := by
  simp only [Vector.all_eq_true, oneHot_iff_mem, Fin.forall_iff, Fin.getElem_fin]

/-- A configuration is good when each condition of R207 fails. -/
theorem Params.ok_iff (p : Params) : p.ok = true ↔
    (∀ ch ∈ p.wiring.channels, ch < 16) ∧ p.wiring.channels.Nodup ∧
      (∀ k : Fin 4, p.coilTable[k] ∈ [0b0001#4, 0b0010#4, 0b0100#4, 0b1000#4]) ∧
      0 < p.pulsesPerSecond ∧ 1 ≤ p.numPorts ∧ p.deviceAddr ≤ 0x7F ∧
      (p.resetTarget = 0 ∨ p.resetTarget = p.deviceAddr) := by
  simp only [Params.ok, Bool.and_eq_true, Bool.or_eq_true, decide_eq_true_eq, List.all_eq_true, beq_iff_eq,
    coilTable_all_oneHot_iff, and_assoc]
  exact Iff.rfl

end Sys2Proof

namespace Sys2Proof.Machine

/-! ### The bus primitives -/

/-- On a port with context c, an update of the running context stores its value at c and nothing else. -/
theorem State.modCtx_of_ctx {s : State} {c : Ctx} (h : s.ctx? = some c) (f : Ctx → Ctx) :
    s.modCtx f = { s with ports := s.ports.modify s.cur fun q => { q with ctx := some (f c) } } := by
  have hports : (s.modCtx f).ports = s.ports.modify s.cur fun q => { q with ctx := some (f c) } := by
    obtain ⟨q, hq, hc⟩ : ∃ q, s.ports[s.cur]? = some q ∧ q.ctx = some c := Option.bind_eq_some_iff.mp h
    refine List.ext_getElem? fun p => ?_
    by_cases hp : s.cur = p
    · subst hp
      simp [hq, hc]
    · simp [hp]
  exact congrArg (fun ps => { s with ports := ps }) hports

/-- Settles O12: each primitive is a draw, one event and an update of the running context. -/
theorem busPrimitivesAreExact : Obligations.BusPrimitivesAreExact := by
  intro s c h
  refine ⟨fun reg v => ?write, fun reg => ?read, fun dev b => ?send⟩
  case write =>
    exact State.modCtx_of_ctx
      (s := (s.setEnv s.env.dropAck).emit (.write s.cur s.params.dev reg v s.env.nextAck)) h _
  case read =>
    exact State.modCtx_of_ctx
      (s := (s.setEnv s.env.dropRead).emit (.read s.cur s.params.dev reg s.env.nextRead)) h _
  case send =>
    exact State.modCtx_of_ctx (s := (s.setEnv s.env.dropAck).emit (.send s.cur dev b s.env.nextAck)) h _

/-! ### The refusal of a bad configuration -/

theorem State.resetWith_refused_iff (p : Params) (clock : Rat) :
    (State.resetWith p clock).refused = true ↔ ¬ p.ok = true := by
  simp [State.resetWith]

/-! ### A step of a refused block with no command in flight -/

theorem State.ctxAt_of_idle {s : State} (h : ∀ q ∈ s.ports, q.busy = false ∧ q.ctx = none) (p : Nat) :
    s.ctxAt p = none :=
  Option.bind_eq_none_iff.mpr fun q hq => (h q (List.mem_of_getElem? hq)).2

/-- The scheduler finds no segment on a port with no command in flight (R72). -/
theorem State.fetchOn_of_ctxAt_none {s : State} {p : Nat} (h : s.ctxAt p = none) : s.fetchOn p = .done s := by
  simp [State.fetchOn, h]

/-- With no command in flight and no turn queued the block waits (R241). -/
theorem State.fetchFree_of_ctxAt_none {s : State} (h : ∀ p, s.ctxAt p = none) : s.fetchFree = .done s := by
  have hnone : s.enabledPorts = [] := by simp [State.enabledPorts, State.enabled, h]
  simp [State.fetchFree, hnone]

/-- A refused block accepts no offer (R207). -/
theorem State.offer_of_refused {s : State} (h : s.refused = true) (p : Nat) (w : Word) : s.offer p w = s := by
  simp [State.offer, State.accepts, h]

/-- What a step of a refused block with no command in flight does to the block: nothing (R207). Its turn, if one is
queued, is passed over (log 4). -/
theorem State.fetch_of_refused {s : State} (href : s.refused = true) (hctx : ∀ p, s.ctxAt p = none) :
    ∃ e, s.fetch = .done (s.setEnv e) := by
  unfold State.fetch
  split
  next => exact ⟨s.env, State.fetchFree_of_ctxAt_none hctx⟩
  next p w _ _ => exact ⟨_, congrArg Fetched.done (State.offer_of_refused (s := s.dropTurn) href p w)⟩
  next p _ _ => exact ⟨_, State.fetchOn_of_ctxAt_none (s := s.dropTurn) (hctx p)⟩

/-- Settles O52: the check is the negation of R207's list, and a step of a refused idle block only takes a turn. -/
theorem badConfigurationsAreRefused : Obligations.BadConfigurationsAreRefused := by
  refine ⟨fun p clock => ?check, fun s t href hidle hstep => ?refused⟩
  case check =>
    rw [State.resetWith_refused_iff, Params.ok_iff]
    simp only [not_and_or, not_forall, not_or, not_lt, not_le, exists_prop]
  case refused =>
    obtain ⟨e, he⟩ := State.fetch_of_refused href (State.ctxAt_of_idle hidle)
    have ht : s.setEnv e = t := by simpa [step, he] using hstep
    subst ht
    exact ⟨href, rfl, hidle⟩

end Sys2Proof.Machine

/-! PROOFS. The statements of 10_state.md: what a step and a segment can do, said once (20_memory.md R70 to R72), and
from that the invariants of the block, the frame of a segment, and what a host sees of a port. -/

namespace Sys2Proof.Machine

/-! ### What a step of the block can do (R70 to R72) -/

/-- The block with port p's command i picked by the scheduler, decoded before or now (R72, log 8). -/
def State.pick (e : Env) (p : Nat) (i : Instr) (s : State) : State :=
  ((s.setEnv e).setCur p).modCtx (Ctx.decoded i)

@[simp] theorem State.pick_params (e : Env) (p : Nat) (i : Instr) (s : State) : (s.pick e p i).params = s.params := rfl
@[simp] theorem State.pick_refused (e : Env) (p : Nat) (i : Instr) (s : State) :
    (s.pick e p i).refused = s.refused := rfl
@[simp] theorem State.pick_cur (e : Env) (p : Nat) (i : Instr) (s : State) : (s.pick e p i).cur = p := rfl
@[simp] theorem State.pick_trace (e : Env) (p : Nat) (i : Instr) (s : State) : (s.pick e p i).trace = s.trace := rfl
@[simp] theorem State.pick_seqState (e : Env) (p : Nat) (i : Instr) (s : State) :
    (s.pick e p i).seqState = s.seqState := rfl
@[simp] theorem State.pick_lastClock (e : Env) (p : Nat) (i : Instr) (s : State) :
    (s.pick e p i).lastClock = s.lastClock := rfl
@[simp] theorem State.pick_ports (e : Env) (p : Nat) (i : Instr) (s : State) :
    (s.pick e p i).ports = s.ports.modify p fun q => { q with ctx := q.ctx.map (Ctx.decoded i) } := rfl

@[simp] theorem State.pick_ctxAt (e : Env) (p : Nat) (i : Instr) (s : State) (q : Nat) :
    (s.pick e p i).ctxAt q = if p = q then (s.ctxAt q).map (Ctx.decoded i) else s.ctxAt q := by
  by_cases h : p = q <;> simp [State.pick, h]

theorem State.pick_ctx? {s : State} {p : Nat} {c : Ctx} (h : s.ctxAt p = some c) (e : Env) (i : Instr) :
    (s.pick e p i).ctx? = some (c.decoded i) := by
  simp [State.ctx?, h]

/-- The command of a context is i: decoded before, or decoded by its segment 1. -/
def Ctx.holds (c : Ctx) (i : Instr) : Prop := c.cmd = some i ∨ c.cmd = none ∧ decode c.word = .legal i

/-- One step: nothing but turns or draws taken, an acceptance, the end of an illegal word, or a segment of the command
in flight on some port. -/
inductive Steps (s : State) : State → Prop
  | pass (e : Env) : Steps s (s.setEnv e)
  | accept {p : Nat} {w : Word} {rest : List Turn} (turn : s.env.turns = .offer p w :: rest)
      (idle : s.accepts p = true) : Steps s ((s.dropTurn.modPortAt p (Port.take w)).emit (.accept p w))
  | illegal (e : Env) {p : Nat} {c : Ctx} (ctx : s.ctxAt p = some c) (cmd : c.cmd = none) :
      Steps s (((s.setEnv e).setCur p).raise .illegalCommand)
  | segment (e : Env) {p : Nat} {c : Ctx} {i : Instr} {t : State} (ctx : s.ctxAt p = some c) (cmd : c.holds i)
      (run : exec i (s.pick e p i) = .next t) : Steps s t

/-- An offer as a step sees it: accepted, or passed over (log 4). -/
theorem State.offer_eq (p : Nat) (w : Word) (s : State) :
    s.offer p w = if s.accepts p then (s.modPortAt p (Port.take w)).emit (.accept p w) else s := rfl

/-- A port takes words when it exists, is idle, and the block is not refused (R32, R70, R207). -/
theorem State.accepts_iff (p : Nat) (s : State) :
    s.accepts p = true ↔ (∃ q, s.ports[p]? = some q ∧ q.busy = false) ∧ s.refused = false := by
  cases h : s.ports[p]? <;> simp [State.accepts, h, and_comm]

/-- An accepted word's context is fresh, and the other ports keep theirs (R70). -/
theorem State.ctxAt_take {s : State} {p : Nat} {q : Port} (h : s.ports[p]? = some q) (w : Word) (e : Event) (r : Nat) :
    ((s.modPortAt p (Port.take w)).emit e).ctxAt r = if p = r then some (Ctx.fresh w) else s.ctxAt r := by
  rw [State.ctxAt_emit, State.ctxAt_modPortAt]
  split
  next hpr => rw [← hpr, h]; rfl
  next => rfl

/-- Decoding again changes nothing in a context that holds the command. -/
theorem State.modCtx_decoded_of_cmd {s : State} {c : Ctx} {i : Instr} (h : s.ctx? = some c) (hc : c.cmd = some i) :
    s.modCtx (Ctx.decoded i) = s := by
  obtain ⟨q, hq, hqc⟩ : ∃ q, s.ports[s.cur]? = some q ∧ q.ctx = some c := Option.bind_eq_some_iff.mp h
  have hd : c.decoded i = c := by rw [Ctx.decoded, ← hc]
  have hports : (s.modCtx (Ctx.decoded i)).ports = s.ports := by
    refine List.ext_getElem? fun p => ?_
    by_cases hp : s.cur = p
    · subst hp
      have : ({ q with ctx := some c } : Port) = q := by rw [← hqc]
      simp [hq, hqc, hd, this]
    · simp [hp]
  exact congrArg (fun ps => { s with ports := ps }) hports

/-- What a step makes of its fetch: the state, or the segment's outcome. -/
def Fetched.outcome : Fetched → Host.Outcome State Fault Refusal
  | .done t => .next t
  | .run i t => exec i t

theorem step_eq (s : State) : step s = s.fetch.outcome := rfl

/-- What the scheduler's pick of port p gives: nothing to run, the end of an illegal word, or a segment. -/
theorem Steps.of_fetchOn {s t : State} {p : Nat} (e : Env)
    (h : (State.fetchOn p (s.setEnv e)).outcome = .next t) : Steps s t := by
  unfold State.fetchOn at h
  rw [State.ctxAt_setEnv] at h
  cases hctx : s.ctxAt p with
  | none =>
    obtain rfl : s.setEnv e = t := by simpa [hctx, Fetched.outcome] using h
    exact .pass e
  | some c =>
    cases hcmd : c.cmd with
    | some i =>
      have hpick : s.pick e p i = (s.setEnv e).setCur p :=
        State.modCtx_decoded_of_cmd (s := (s.setEnv e).setCur p) hctx hcmd
      exact .segment e hctx (.inl hcmd) (by simpa [hctx, hcmd, Fetched.outcome, hpick] using h)
    | none =>
      cases hdec : decode c.word with
      | legal i =>
        exact .segment e hctx (.inr ⟨hcmd, hdec⟩)
          (by simpa [hctx, hcmd, hdec, Fetched.outcome, State.pick] using h)
      | illegal why =>
        obtain rfl : ((s.setEnv e).setCur p).raise .illegalCommand = t := by
          simpa [hctx, hcmd, hdec, Fetched.outcome] using h
        exact .illegal e hctx hcmd

/-- Every step is one of the four. -/
theorem step_cases {s t : State} (h : step s = .next t) : Steps s t := by
  rw [step_eq] at h
  unfold State.fetch at h
  cases hturns : s.env.turns with
  | nil =>
    simp only [hturns, State.fetchFree] at h
    split at h
    next =>
      obtain rfl : s = t := by simpa [Fetched.outcome] using h
      exact .pass s.env
    next => exact .of_fetchOn _ h
  | cons turn rest =>
    cases turn with
    | offer p w =>
      obtain rfl : s.dropTurn.offer p w = t := by simpa [hturns, Fetched.outcome] using h
      rw [State.offer_eq]
      split
      next hacc => exact .accept hturns hacc
      next => exact .pass _
    | run p => exact .of_fetchOn _ (by rw [hturns] at h; exact h)

/-! ### How a segment ends: one closing action, or the end of its command (R71, R98, R206) -/

/-- The last thing a segment does. -/
inductive Closing where
  | write (reg v : Byte)
  | read (reg : Byte)
  | send (dev : DevAddr) (b : Byte)
  | wait (deadline : Rat)
  | respond (status : Status) (data : RespData)
  | fault (reason : FaultReason)

namespace Closing

/-- The operation of the model that it is. -/
def run : Closing → State → State
  | write reg v, s => s.busWrite reg v
  | read reg, s => s.busRead reg
  | send dev b, s => s.busSend dev b
  | wait d, s => s.waitUntil d
  | respond status data, s => s.respond status data
  | fault reason, s => s.fault reason

/-- The command has a further segment. -/
def continues : Closing → Bool
  | write _ _ | read _ | send _ _ | wait _ => true
  | respond _ _ | fault _ => false

/-- The one event it records (R73). -/
def event (s : State) : Closing → Event
  | write reg v => .write s.cur s.params.dev reg v s.env.nextAck
  | read reg => .read s.cur s.params.dev reg s.env.nextRead
  | send dev b => .send s.cur dev b s.env.nextAck
  | wait d => .wait s.cur d
  | respond status data => .respond s.cur ⟨status, data⟩
  | fault reason => .fault s.cur reason

/-- What it makes of the running command's context (R71, log 9). -/
def context (s : State) : Closing → Ctx → Option Ctx
  | write _ _, c | send _ _, c => some (c.tookAck s.env.nextAck)
  | read _, c => some (c.tookRead s.env.nextRead)
  | wait d, c => some (c.waiting d)
  | respond _ _, _ | fault _, _ => none

theorem event_port (a : Closing) (s : State) : (a.event s).port = s.cur := by cases a <;> rfl

theorem event_bounds (a : Closing) (s : State) : (a.event s).bounds = !a.continues := by cases a <;> rfl

/-- Only a write records a write. -/
theorem eq_write_of_event {a : Closing} {s : State} {p : Nat} {d : DevAddr} {r v : Byte} {x : Ack}
    (h : a.event s = .write p d r v x) : a = .write r v ∧ s.cur = p := by
  cases a <;> simp_all [event]

theorem run_trace (a : Closing) (s : State) : (a.run s).trace = s.trace ++ [a.event s] := by
  cases a <;> simp [run, event]

theorem run_seqState (a : Closing) (s : State) : (a.run s).seqState = s.seqState := by cases a <;> simp [run]

theorem run_ctxAt (a : Closing) (s : State) (p : Nat) :
    (a.run s).ctxAt p = if s.cur = p then (s.ctxAt p).bind (a.context s) else s.ctxAt p := by
  by_cases h : s.cur = p <;> cases hc : s.ctxAt p <;> cases a <;> simp [run, context, h, hc]

/-- A going command's next context: the same command of the same word, one position on. -/
theorem context_some {a : Closing} {s : State} {c c' : Ctx} (h : a.context s c = some c') :
    a.continues = true ∧ c'.cmd = c.cmd ∧ c'.word = c.word ∧ c'.pos = c.pos + 1 := by
  cases a <;> simp only [context, Option.some.injEq, reduceCtorEq] at h <;> subst h <;> exact ⟨rfl, rfl, rfl, rfl⟩

theorem context_old {a : Closing} {s : State} {c c' : Ctx} (h : a.context s c = some c') : c'.old = c.old := by
  cases a <;> simp only [context, Option.some.injEq, reduceCtorEq] at h <;> subst h <;> rfl

theorem context_isSome (a : Closing) (s : State) (c : Ctx) : (a.context s c).isSome = a.continues := by
  cases a <;> rfl

end Closing

/-! ### What each command may write of the shared elements (R22, R24 to R28, R30, R35) -/

/-- From s to t only the elements that command i writes have changed. -/
structure Writes (i : Instr) (s t : State) : Prop where
  ready : i.isInit = false → t.ready = s.ready
  stepIndex : i.isStep = false → t.stepIndex = s.stepIndex
  seqState : i.isStep = false → t.seqState = s.seqState
  throttle : i.isSetstr = false → t.throttle = s.throttle
  pulsing : i.updatesCoils = false → t.pulsing = s.pulsing
  cancel : i.isStep = false → i.isStop = false → t.cancel = s.cancel
  faulted : i.isSetfreq = false → t.faulted = s.faulted
  lastClock : i.isInit = false → i.isSetfreq = false → i.isStep = false → t.lastClock = s.lastClock
  marks : ∀ r, s.faulted.has r = true → t.faulted.has r = true

theorem Writes.trans {i : Instr} {s t u : State} (a : Writes i s t) (b : Writes i t u) : Writes i s u where
  ready h := (b.ready h).trans (a.ready h)
  stepIndex h := (b.stepIndex h).trans (a.stepIndex h)
  seqState h := (b.seqState h).trans (a.seqState h)
  throttle h := (b.throttle h).trans (a.throttle h)
  pulsing h := (b.pulsing h).trans (a.pulsing h)
  cancel h h' := (b.cancel h h').trans (a.cancel h h')
  faulted h := (b.faulted h).trans (a.faulted h)
  lastClock h h' h'' := (b.lastClock h h' h'').trans (a.lastClock h h' h'')
  marks r h := b.marks r (a.marks r h)

/-- A mark stays when another is added (R35). -/
theorem FaultSet.has_add {f : FaultSet} {r : FaultReason} (h : f.has r = true) (r' : FaultReason) :
    (f.add r').has r = true := by
  cases r' with
  | freqNonpositive => cases r; exacts [rfl, h]
  | prescaleRange => cases r; exacts [h, rfl]

/-- A closing action writes no shared element; a fault, which only SETFREQ ends in, adds its mark. -/
theorem Closing.run_writes {a : Closing} {i : Instr} (s : State) (h : ∀ r, a = .fault r → i.isSetfreq = true) :
    Writes i s (a.run s) := by
  cases a with
  | fault r =>
    have hi := h r rfl
    exact { ready := by simp [run], stepIndex := by simp [run], seqState := by simp [run], throttle := by simp [run]
            pulsing := by simp [run], cancel := by simp [run], lastClock := by simp [run]
            faulted := fun h => by simp [h] at hi
            marks := fun _ h => by simpa [run] using FaultSet.has_add h r }
  | _ => constructor <;> simp [run]

/-! ### What comes before the closing action -/

/-- `Clock` events of port p added to a trace (R73, R219). -/
inductive ClocksAdded (p : Nat) (tr : List Event) : List Event → Prop
  | none : ClocksAdded p tr tr
  | clock {tr' : List Event} {t : Rat} (before : ClocksAdded p tr tr') (nonneg : 0 ≤ t) :
      ClocksAdded p tr (tr' ++ [.clock p t])

theorem ClocksAdded.trans {p : Nat} {a b c : List Event} (h : ClocksAdded p a b) (h' : ClocksAdded p b c) :
    ClocksAdded p a c := by
  induction h' with
  | none => exact h
  | clock _ hn ih => exact .clock ih hn

/-- What a segment of command i does before its closing action: it updates its own context by f, may read the clock, and
writes elements that are its own. -/
structure Quiet (i : Instr) (f : Ctx → Ctx) (s u : State) : Prop where
  params : u.params = s.params
  cur : u.cur = s.cur
  ports : u.ports = s.ports.modify s.cur fun q => { q with ctx := q.ctx.map f }
  cmd : ∀ c, (f c).cmd = c.cmd
  word : ∀ c, (f c).word = c.word
  trace : ClocksAdded s.cur s.trace u.trace
  writes : Writes i s u

namespace Quiet

variable {i : Instr} {f g : Ctx → Ctx} {s u v : State}

theorem modify_ctx_id (l : List Port) (p : Nat) : (l.modify p fun q => { q with ctx := q.ctx.map id }) = l := by
  simp only [Option.map_id_fun, id]
  exact List.modify_id _ _

/-- An update of elements that the command writes. -/
theorem of_writes (params : u.params = s.params) (cur : u.cur = s.cur) (ports : u.ports = s.ports)
    (trace : u.trace = s.trace) (writes : Writes i s u) : Quiet i id s u :=
  ⟨params, cur, by rw [modify_ctx_id, ports], fun _ => rfl, fun _ => rfl, trace ▸ .none, writes⟩

theorem refl (i : Instr) (s : State) : Quiet i id s s := of_writes rfl rfl rfl rfl (by constructor <;> simp)

theorem trans (a : Quiet i f s u) (b : Quiet i g u v) : Quiet i (g ∘ f) s v where
  params := b.params.trans a.params
  cur := b.cur.trans a.cur
  ports := by
    rw [b.ports, a.ports, a.cur, List.modify_modify_eq]
    congr 1
    funext q
    simp
  cmd c := (b.cmd (f c)).trans (a.cmd c)
  word c := (b.word (f c)).trans (a.word c)
  trace := a.trace.trans (a.cur ▸ b.trace)
  writes := a.writes.trans b.writes

theorem modCtx (i : Instr) (f : Ctx → Ctx) (s : State) (hcmd : ∀ c, (f c).cmd = c.cmd)
    (hword : ∀ c, (f c).word = c.word) :
    Quiet i f s (s.modCtx f) :=
  ⟨rfl, rfl, rfl, hcmd, hword, .none, by constructor <;> simp⟩

theorem readClockFrom (h : i.isInit = true ∨ i.isSetfreq = true ∨ i.isStep = true) (b : Rat) (s : State) :
    Quiet i id s (s.readClockFrom b) where
  params := by simp
  cur := by simp
  ports := by rw [modify_ctx_id, State.readClockFrom_ports]
  cmd _ := rfl
  word _ := rfl
  trace := by
    rw [State.readClockFrom_trace]
    exact .clock .none (s.clockValue_ge b).2.2
  writes := by
    constructor
    case lastClock => rintro hi hf hs; simp [hi, hf, hs] at h
    all_goals simp

theorem readClock (h : i.isInit = true ∨ i.isSetfreq = true ∨ i.isStep = true) (s : State) :
    Quiet i id s s.readClock := readClockFrom h 0 s

theorem resume (h : i.isInit = true ∨ i.isSetfreq = true ∨ i.isStep = true) (c : Ctx) (s : State) :
    Quiet i Ctx.resumed s (s.resume c) :=
  (readClockFrom h _ s).trans (modCtx i Ctx.resumed _ (fun _ => rfl) fun _ => rfl)

theorem clearReady (h : i.isInit = true) (s : State) : Quiet i id s s.clearReady :=
  of_writes rfl rfl rfl rfl (by constructor <;> simp [h])

theorem markReady (h : i.isInit = true) (s : State) : Quiet i id s s.markReady :=
  of_writes rfl rfl rfl rfl (by constructor <;> simp [h])

theorem setThrottle (h : i.isSetstr = true) (x : Rat) (s : State) : Quiet i id s (s.setThrottle x) :=
  of_writes rfl rfl rfl rfl (by constructor <;> simp [h])

theorem beginPulse (h : i.updatesCoils = true) (s : State) : Quiet i id s s.beginPulse :=
  of_writes rfl rfl rfl rfl (by constructor <;> simp [h])

theorem endPulse (h : i.updatesCoils = true) (s : State) : Quiet i id s s.endPulse :=
  of_writes rfl rfl rfl rfl (by constructor <;> simp [h])

theorem setStepIndex (h : i.isStep = true) (k : Fin 4) (s : State) : Quiet i id s (s.setStepIndex k) :=
  of_writes rfl rfl rfl rfl (by constructor <;> simp [h])

theorem beginLoop (h : i.isStep = true) (s : State) : Quiet i id s s.beginLoop :=
  of_writes rfl rfl rfl rfl (by constructor <;> simp [h])

theorem endLoop (h : i.isStep = true) (s : State) : Quiet i id s s.endLoop :=
  of_writes rfl rfl rfl rfl (by constructor <;> simp [h])

theorem requestStop (h : i.isStop = true) (s : State) : Quiet i id s s.requestStop := by
  unfold State.requestStop
  split
  · exact of_writes rfl rfl rfl rfl (by constructor <;> simp [h])
  · exact refl i s

theorem ctx? (h : Quiet i f s u) : u.ctx? = s.ctx?.map f := by
  simp only [State.ctx?, State.ctxAt, h.ports, h.cur, List.getElem?_modify_eq]
  cases s.ports[s.cur]? <;> rfl

/-- The running context after a segment's closing action. -/
theorem run_ctxAt (h : Quiet i f s u) {c : Ctx} (hc : s.ctx? = some c) (a : Closing) (p : Nat) :
    (a.run u).ctxAt p = if s.cur = p then a.context u (f c) else s.ctxAt p := by
  rw [Closing.run_ctxAt, h.cur]
  split
  next hp =>
    have : u.ctxAt p = some (f c) := by rw [← hp, ← h.cur, ← State.ctx?_eq, h.ctx?, hc]; rfl
    rw [this, Option.bind_some]
  next hp => simp [State.ctxAt, h.ports, hp]

end Quiet

/-! ### What a segment does, command by command -/

/-- The context of a command of a good configuration: at a position of the command, with operands that passed the checks
of its segment 1 (R71, R207, R208). -/
structure Live (i : Instr) (c : Ctx) (s : State) : Prop where
  pos : c.pos ≤ i.lastPos
  valid : 0 < c.pos → i.operandsValid = true
  config : s.params.ok = true

/-- What a closing action may put on the bus (R50, R54, R62). -/
def Closing.allowed (p : Params) : Closing → Prop
  | write reg v => legalReg reg = true ∧ (reg = regMode2 → v = maskOutdrv)
  | read reg => reg = regMode1 ∨ reg = regPrescale
  | send dev b => dev = p.resetDev ∧ b = swrstByte
  | _ => True

/-- INIT and MODE1 (R120): step 3 right after step 2, and the wake byte of the byte read. -/
structure InitMode (c c' : Ctx) (s u : State) (a : Closing) : Prop where
  pos : a.continues = true → c'.pos = c.pos
  write : ∀ v, a = .write regMode1 v → c.answer ≠ .err ∧
    (c.pos = 5 ∧ v = maskAllcall ∧ u.trace = s.trace ∨ c.pos = 8 ∧ v = wakeByte c.answer.byte)
  step2 : a.continues = true → c.pos = 4 → a = .write regMode2 maskOutdrv
  read : a.continues = true → c.pos = 7 → a = .read regMode1

/-- SETFREQ and MODE1 (R140): the sleep byte of the byte read, that byte, and its restart byte. -/
structure SetfreqMode (c c' : Ctx) (a : Closing) : Prop where
  pos : a.continues = true → c'.pos = c.pos
  write : ∀ v, a = .write regMode1 v → c.pos = 1 ∧ c.answer ≠ .err ∧ v = sleepByte c.answer.byte ∨
    2 ≤ c.pos ∧ (v = c.old ∨ v = restartByte c.old)
  read : a.continues = true → c.pos = 0 → a = .read regMode1
  keep : a.continues = true → c.pos = 1 → c.answer ≠ .err ∧ c'.old = c.answer.byte
  kept : a.continues = true → 2 ≤ c.pos → c'.old = c.old

/-- STEP and `seqState` (R27, R188): segment 1 enters the loop from Idle or leaves `seqState` alone; a loop that goes on
does not touch it, and one that ends leaves it Idle. -/
structure LoopStep (c : Ctx) (before after : SeqState) (continues : Bool) : Prop where
  enter : c.pos = 0 → continues = true → before = .idle ∧ after = .stepping
  stay : c.pos = 0 → continues = false → after = before
  goOn : 0 < c.pos → continues = true → after = before
  leave : 0 < c.pos → continues = false → after = .idle

/-- What command i may close a segment with that began in context c of s and has come to context c' of u. -/
structure Closes (i : Instr) (c c' : Ctx) (s u : State) (a : Closing) : Prop where
  fault : ∀ r, a = .fault r → i.isSetfreq = true
  next : Live i c s → a.continues = true → c'.pos < i.lastPos ∧ i.operandsValid = true
  allowed : Live i c s → a.allowed s.params
  mode : Live i c s → i.isInit = false → i.isSetfreq = false → ∀ v, a ≠ .write regMode1 v
  init : i.isInit = true → InitMode c c' s u a
  setfreq : i.isSetfreq = true → SetfreqMode c c' a
  loop : i.isStep = true → LoopStep c s.seqState u.seqState a.continues

/-- A segment of command i from state s, where its context is c (R71): quiet work, then one closing action. -/
inductive Segment (i : Instr) (c : Ctx) (s : State) : State → Prop
  | mk {f : Ctx → Ctx} {u : State} (a : Closing) (quiet : Quiet i f s u) (closes : Closes i c (f c) s u a) :
      Segment i c s (a.run u)

theorem Segment.of_answered {i : Instr} {c : Ctx} {s t u : State} (fail : c.answer = .err → Segment i c s t)
    (rest : c.answer ≠ .err → Segment i c s u) : Segment i c s (answered c t u) := by
  unfold answered
  split
  · exact fail ‹_›
  · exact rest ‹_›

theorem Segment.of_issue {i : Instr} {c : Ctx} {s u : State} {ws : List RegWrite} {k : Nat} {d : State → State}
    (write : ∀ h : k < ws.length, Segment i c s (u.busWrite ws[k].reg ws[k].val))
    (done : ws.length ≤ k → Segment i c s (d u)) : Segment i c s (issue ws k d u) := by
  rcases Nat.lt_or_ge k ws.length with h | h
  · exact issue_lt h d u ▸ write h
  · exact issue_ge h d u ▸ done h

/-! #### Commands that write only output registers -/

/-- The registers of the channels and of the broadcast (R51 to R53). -/
def outputReg (r : Byte) : Bool := isChannelReg r.toNat || isBroadcastReg r.toNat

theorem legalReg_of_outputReg {r : Byte} (h : outputReg r = true) : legalReg r = true := by
  simp only [outputReg, Bool.or_eq_true] at h
  simp only [legalReg, Bool.or_eq_true]
  tauto

theorem outputReg_ne_mode {r : Byte} (h : outputReg r = true) : r ≠ regMode1 ∧ r ≠ regMode2 := by
  constructor <;> rintro rfl <;> exact absurd h (by decide)

theorem outputReg_chanBase {n : Nat} (h : n < 16) : outputReg (chanBase n) = true ∧ outputReg (chanBase n + 1) = true ∧
    outputReg (chanBase n + 2) = true ∧ outputReg (chanBase n + 3) = true := by
  revert n
  decide

theorem groupWrites_output {n : Nat} (h : n < 16) (a b : Nat) :
    ∀ w ∈ groupWrites (chanBase n) a b, outputReg w.reg = true := by
  simpa [groupWrites] using outputReg_chanBase h

theorem pinWrites_output {n : Nat} (h : n < 16) (p : PinState) : ∀ w ∈ pinWrites n p, outputReg w.reg = true := by
  cases p <;> exact groupWrites_output h _ _

theorem allWrites_output (a b : Nat) : ∀ w ∈ groupWrites allBase a b, outputReg w.reg = true := by
  simp [groupWrites]
  decide

theorem coilWrites_output {p : Params} (h : p.ok = true) (x : CoilState) :
    ∀ w ∈ coilWrites p.wiring x, outputReg w.reg = true := by
  obtain ⟨hch, -⟩ := p.ok_iff.1 h
  simp only [Wiring.channels, List.forall_mem_cons] at hch
  obtain ⟨-, h1, h2, -, h3, h4, -⟩ := hch
  simp only [coilWrites, List.forall_mem_append]
  exact ⟨⟨⟨pinWrites_output h2 _, pinWrites_output h3 _⟩, pinWrites_output h1 _⟩, pinWrites_output h4 _⟩

theorem dutyWrites_output {p : Params} (h : p.ok = true) (d : Int) :
    ∀ w ∈ dutyWrites p.wiring d, outputReg w.reg = true := by
  obtain ⟨hch, -⟩ := p.ok_iff.1 h
  simp only [Wiring.channels, List.forall_mem_cons] at hch
  obtain ⟨h1, -, -, h2, -⟩ := hch
  simp only [dutyWrites, List.forall_mem_append]
  exact ⟨groupWrites_output h1 _ _, groupWrites_output h2 _ _⟩

namespace Segment

variable {i : Instr} {f : Ctx → Ctx} {c : Ctx} {s u : State}

/-- A command may always end with a response; STEP has its loop to leave. -/
theorem respond (quiet : Quiet i f s u) (status : Status) (data : RespData)
    (loop : i.isStep = true → LoopStep c s.seqState u.seqState false) : Segment i c s (u.respond status data) :=
  .mk (.respond status data) quiet
    { fault := nofun, next := nofun, allowed := fun _ => trivial, mode := nofun, loop
      init := fun _ => ⟨nofun, nofun, nofun, nofun⟩
      setfreq := fun _ => ⟨nofun, nofun, nofun, nofun, nofun⟩ }

/-- A write of an output register (R51 to R53). -/
theorem outputWrite {r v : Byte} (hi : i.isInit = false) (hf : i.isSetfreq = false) (quiet : Quiet i f s u)
    (next : Live i c s → (f c).pos < i.lastPos ∧ i.operandsValid = true) (reg : Live i c s → outputReg r = true)
    (loop : i.isStep = true → LoopStep c s.seqState u.seqState true) : Segment i c s (u.busWrite r v) :=
  .mk (.write r v) quiet
    { fault := nofun, loop
      next := fun h _ => next h
      allowed := fun h => ⟨legalReg_of_outputReg (reg h), fun e => absurd e (outputReg_ne_mode (reg h)).2⟩
      mode := fun h _ _ v e => (outputReg_ne_mode (reg h)).1 (Closing.write.inj e).1
      init := fun h => by simp [hi] at h
      setfreq := fun h => by simp [hf] at h }

/-- The next of a list of writes of output registers, or what follows the last. -/
theorem outputIssue {ws : List RegWrite} {k : Nat} {d : State → State} (hi : i.isInit = false)
    (hf : i.isSetfreq = false) (quiet : Quiet i f s u) (pos : (f c).pos = k) (len : ws.length ≤ i.lastPos)
    (valid : Live i c s → i.operandsValid = true) (regs : Live i c s → ∀ w ∈ ws, outputReg w.reg = true)
    (loop : i.isStep = true → k < ws.length → LoopStep c s.seqState u.seqState true)
    (done : ws.length ≤ k → Segment i c s (d u)) : Segment i c s (issue ws k d u) :=
  of_issue (fun hk => outputWrite hi hf quiet (fun h => ⟨by omega, valid h⟩)
    (fun h => regs h _ (List.getElem_mem hk)) fun hs => loop hs hk) done

/-- The readiness check of R202, for a command other than STEP. -/
theorem of_gated {t : State} (hs : i.isStep = false) (rest : Segment i c s t) : Segment i c s (gated s t) := by
  unfold gated
  split
  · exact rest
  · exact respond (.refl i s) _ _ fun h => by simp [hs] at h

/-- The failure exit of R205, for a command other than STEP. -/
theorem busFail (hs : i.isStep = false) (quiet : Quiet i f s u) (data : RespData) :
    Segment i c s (u.busFail c data) :=
  respond quiet _ _ fun h => by simp [hs] at h

/-! #### The commands of the driver -/

/-- WRCH, WRALL and SETPIN (R125, R130, R135). -/
theorem groupCommand {ws : List RegWrite} (hi : i.isInit = false) (hf : i.isSetfreq = false) (hs : i.isStep = false)
    (len : ws.length = i.lastPos) (regs : i.operandsValid = true → ∀ w ∈ ws, outputReg w.reg = true) (s : State) :
    (c.pos = 0 → Segment i c s (firstOfWrites i.operandsValid ws s)) ∧
      (0 < c.pos → Segment i c s (restOfWrites ws c s)) := by
  have hstep {p : Prop} (h : i.isStep = true) : p := by simp [hs] at h
  have hok : Segment i c s (s.respond .ok .none) := respond (.refl i s) _ _ hstep
  refine ⟨fun hpos => of_gated hs ?_, fun hpos => of_answered (fun _ => busFail hs (.refl i s) _) fun _ => ?_⟩
  · split
    next hv => exact outputIssue hi hf (.refl i s) hpos len.le (fun _ => hv) (fun _ => regs hv) hstep fun _ => hok
    next => exact respond (.refl i s) _ _ hstep
  · exact outputIssue hi hf (.refl i s) rfl len.le (fun h => h.valid hpos) (fun h => regs (h.valid hpos)) hstep
      fun _ => hok

/-- The first six writes of INIT: all legal, MODE2 written in step 2 and MODE1 in step 3 (R120). -/
theorem initWrites_facts : ∀ k, ∀ h : k < initWrites.length, legalReg initWrites[k].reg = true ∧
    (initWrites[k].reg = regMode2 → initWrites[k].val = maskOutdrv) ∧
    (initWrites[k].reg = regMode1 → k = 5 ∧ initWrites[k].val = maskAllcall) ∧
    (k = 4 → initWrites[k] = ⟨regMode2, maskOutdrv⟩) ∧ k ≠ 7 := by
  decide

/-- One of the first six writes of INIT. -/
theorem initWrite (quiet : Quiet .init id s u) (hk : c.pos < initWrites.length) (answer : 0 < c.pos → c.answer ≠ .err)
    (trace : u.trace = s.trace) :
    Segment .init c s (u.busWrite initWrites[c.pos].reg initWrites[c.pos].val) := by
  obtain ⟨hlegal, hmode2, hmode1, hstep2, hread⟩ := initWrites_facts c.pos hk
  refine .mk (.write initWrites[c.pos].reg initWrites[c.pos].val) quiet
    { fault := nofun, mode := nofun, setfreq := nofun, loop := nofun
      next := fun _ _ => ⟨lt_trans hk (by decide), rfl⟩
      allowed := fun _ => ⟨hlegal, hmode2⟩
      init := fun _ =>
        { pos := fun _ => rfl
          write := fun v e => ?_
          step2 := fun _ h => by rw [hstep2 h]
          read := fun _ h => absurd h hread } }
  obtain ⟨hreg, hval⟩ := Closing.write.inj e
  obtain ⟨hpos, hall⟩ := hmode1 hreg
  exact ⟨answer (by omega), .inl ⟨hpos, hval ▸ hall, trace⟩⟩

/-- The waits of INIT and the reads after them. -/
theorem initWait (hpos : c.pos = 6 ∨ c.pos = 9) (s : State) : Segment .init c s (s.waitFor waitMs) :=
  .mk (.wait _) (.readClock (.inl rfl) s)
    { fault := nofun, mode := nofun, setfreq := nofun, loop := nofun, allowed := fun _ => trivial
      next := fun _ _ => ⟨show c.pos < 11 by omega, rfl⟩
      init := fun _ => ⟨fun _ => rfl, nofun, fun _ h => by omega, fun _ h => by omega⟩ }

theorem initRead {r : Byte} (hpos : c.pos = 7 ∧ r = regMode1 ∨ c.pos = 10 ∧ r = regPrescale) (s : State) :
    Segment .init c s ((s.resume c).busRead r) :=
  .mk (.read r) (.resume (.inl rfl) c s)
    { fault := nofun, mode := nofun, setfreq := nofun, loop := nofun
      allowed := fun _ => hpos.imp And.right And.right
      next := fun _ _ => ⟨show c.pos < 11 by omega, rfl⟩
      init := fun _ => ⟨fun _ => rfl, nofun, fun _ h => by omega, fun _ h => by
        obtain ⟨-, rfl⟩ | ⟨h', -⟩ := hpos
        · rfl
        · omega⟩ }

/-- INIT (R120). -/
theorem initSegment (c : Ctx) (s : State) : Segment .init c s (initSegment c s) := by
  have hfail : Segment .init c s (s.busFail c .none) := busFail rfl (.refl _ s) _
  unfold Machine.initSegment
  split
  next hpos =>
    have hk : c.pos < initWrites.length := by rw [hpos]; decide
    rw [issue_lt (by decide)]
    simpa only [hpos] using initWrite (.clearReady rfl s) hk (fun h => by omega) rfl
  next hpos => exact of_answered (fun _ => hfail) fun _ => initWait (.inl hpos) s
  next hpos => exact initRead (.inl ⟨hpos, rfl⟩) s
  next hpos =>
    refine of_answered (fun _ => hfail) fun ha => ?_
    refine .mk (.write regMode1 (wakeByte c.answer.byte))
      (.modCtx .init (Ctx.keepM c.answer.byte) s (fun _ => rfl) fun _ => rfl)
      { fault := nofun, mode := nofun, setfreq := nofun, loop := nofun
        allowed := fun _ => ⟨by decide, fun h => absurd h (by decide)⟩
        next := fun _ _ => ⟨show c.pos < 11 by omega, rfl⟩
        init := fun _ => ⟨fun _ => rfl, fun v e => ⟨ha, .inr ⟨hpos, (Closing.write.inj e).2.symm⟩⟩,
          fun _ h => by omega, fun _ h => by omega⟩ }
  next hpos => exact of_answered (fun _ => hfail) fun _ => initWait (.inr hpos) s
  next hpos => exact initRead (.inr ⟨hpos, rfl⟩) s
  next =>
    exact of_answered (fun _ => hfail) fun ha =>
      of_issue (fun hk => initWrite (.refl _ s) hk (fun _ => ha) rfl) fun _ =>
        respond (.trans (.modCtx .init (Ctx.keepP8 c.answer.byte) s (fun _ => rfl) fun _ => rfl) (.markReady rfl _)) _ _
          nofun

/-- Segment 1 of SETFREQ (R140, R141). -/
theorem setfreqFirst {num : BitVec 32} {den : BitVec 24} (hpos : c.pos = 0) (s : State) :
    Segment (.setfreq num den) c s (setfreqFirst num den s) := by
  have hfault (r : FaultReason) : Segment (.setfreq num den) c s (s.fault r) :=
    .mk (.fault r) (.refl _ s)
      { fault := fun _ _ => rfl, next := nofun, allowed := fun _ => trivial, mode := nofun, init := nofun
        setfreq := fun _ => ⟨nofun, nofun, nofun, nofun, nofun⟩, loop := nofun }
  refine of_gated rfl ?_
  split
  next => exact hfault _
  next hnum =>
    split
    next => exact hfault _
    next hrange =>
      have hvalid : (Instr.setfreq num den).operandsValid = true := by
        simp only [not_or, not_lt] at hrange
        simpa [Instr.operandsValid, hrange] using hnum
      exact .mk (.read regMode1) (.modCtx _ (Ctx.keepP8 _) s (fun _ => rfl) fun _ => rfl)
        { fault := nofun, mode := nofun, init := nofun, loop := nofun
          allowed := fun _ => .inl rfl
          next := fun _ _ => ⟨show c.pos < 6 by omega, hvalid⟩
          setfreq := fun _ => ⟨fun _ => rfl, nofun, fun _ _ => rfl, fun _ h => by omega, fun _ h => by omega⟩ }

/-- The writes and the wait of SETFREQ from position 2 on: the byte read stays in the context. -/
theorem setfreqLater {num : BitVec 32} {den : BitVec 24} {a : Closing} (quiet : Quiet (.setfreq num den) f s u)
    (hpos : 2 ≤ c.pos ∧ c.pos ≤ 5) (keep : (f c).pos = c.pos ∧ (f c).old = c.old)
    (ha : (∃ d, a = .wait d) ∨
      ∃ r v, a = .write r v ∧ (r = regPrescale ∨ r = regMode1 ∧ (v = c.old ∨ v = restartByte c.old))) :
    Segment (.setfreq num den) c s (a.run u) := by
  have next (h : Live (.setfreq num den) c s) : (f c).pos < 6 ∧ (Instr.setfreq num den).operandsValid = true :=
    ⟨by omega, h.valid (by omega)⟩
  obtain ⟨d, rfl⟩ | ⟨r, v, rfl, hrv⟩ := ha
  · exact .mk _ quiet
      { fault := nofun, mode := nofun, init := nofun, loop := nofun
        allowed := fun _ => trivial
        next := fun h _ => next h
        setfreq := fun _ => ⟨fun _ => keep.1, nofun, fun _ h => by omega, fun _ h => by omega, fun _ _ => keep.2⟩ }
  · exact .mk _ quiet
      { fault := nofun, mode := nofun, init := nofun, loop := nofun
        allowed := fun _ => by obtain rfl | ⟨rfl, -⟩ := hrv <;> exact ⟨by decide, fun h => absurd h (by decide)⟩
        next := fun h _ => next h
        setfreq := fun _ => ⟨fun _ => keep.1, fun v' e => by
          obtain ⟨rfl, rfl⟩ := Closing.write.inj e
          obtain h | ⟨-, h⟩ := hrv
          · exact absurd h (by decide)
          · exact .inr ⟨hpos.1, h⟩, fun _ h => by omega, fun _ h => by omega, fun _ _ => keep.2⟩ }

/-- The segments of SETFREQ after the first (R140). -/
theorem setfreqRest {num : BitVec 32} {den : BitVec 24} (c : Ctx) (s : State) :
    Segment (.setfreq num den) c s (setfreqRest c s) := by
  have hfail : Segment (.setfreq num den) c s (s.busFail c .none) := busFail rfl (.refl _ s) _
  unfold Machine.setfreqRest
  split
  next hpos =>
    refine of_answered (fun _ => hfail) fun ha => ?_
    exact .mk (.write regMode1 (sleepByte c.answer.byte))
      (.modCtx _ (Ctx.keepOld c.answer.byte) s (fun _ => rfl) fun _ => rfl)
      { fault := nofun, mode := nofun, init := nofun, loop := nofun
        allowed := fun _ => ⟨by decide, fun h => absurd h (by decide)⟩
        next := fun h _ => ⟨show c.pos < 6 by omega, h.valid (by omega)⟩
        setfreq := fun _ => ⟨fun _ => rfl, fun v e => .inl ⟨hpos, ha, (Closing.write.inj e).2.symm⟩,
          fun _ h => by omega, fun _ _ => ⟨ha, rfl⟩, fun _ h => by omega⟩ }
  next hpos =>
    exact of_answered (fun _ => hfail) fun _ =>
      setfreqLater (.refl _ s) (by omega) ⟨rfl, rfl⟩ (.inr ⟨_, _, rfl, .inl rfl⟩)
  next hpos =>
    exact of_answered (fun _ => hfail) fun _ =>
      setfreqLater (.refl _ s) (by omega) ⟨rfl, rfl⟩ (.inr ⟨_, _, rfl, .inr ⟨rfl, .inl rfl⟩⟩)
  next hpos =>
    exact of_answered (fun _ => hfail) fun _ =>
      setfreqLater (.readClock (.inr (.inl rfl)) s) (by omega) ⟨rfl, rfl⟩ (.inl ⟨_, rfl⟩)
  next hpos =>
    exact setfreqLater (.resume (.inr (.inl rfl)) c s) (by omega) ⟨rfl, rfl⟩
      (.inr ⟨_, _, rfl, .inr ⟨rfl, .inr rfl⟩⟩)
  next => exact of_answered (fun _ => hfail) fun _ => respond (.refl _ s) _ _ nofun

end Segment

namespace Segment

variable {i : Instr} {f : Ctx → Ctx} {c : Ctx} {s u : State}

/-- GETFREQ (R145). -/
theorem getfreqFirst (hpos : c.pos = 0) (s : State) : Segment .getfreq c s (gated s (s.busRead regPrescale)) :=
  of_gated rfl (.mk (.read regPrescale) (.refl _ s)
    { fault := nofun, mode := nofun, init := nofun, setfreq := nofun, loop := nofun
      allowed := fun _ => .inr rfl
      next := fun _ _ => ⟨show c.pos < 1 by omega, rfl⟩ })

/-- SWRESET (R150). -/
theorem swresetFirst (hpos : c.pos = 0) (s : State) :
    Segment .swreset c s (s.busSend s.params.resetDev swrstByte) :=
  .mk (.send s.params.resetDev swrstByte) (.refl _ s)
    { fault := nofun, mode := nofun, init := nofun, setfreq := nofun, loop := nofun
      allowed := fun _ => ⟨rfl, rfl⟩
      next := fun _ _ => ⟨show c.pos < 1 by omega, rfl⟩ }

/-! #### The commands of the sequencer -/

/-- COILS and IDLE (R164, R170, R175). -/
theorem coilSegment {pattern : CoilState} (hu : i.updatesCoils = true) (hi : i.isInit = false)
    (hf : i.isSetfreq = false) (hs : i.isStep = false) (len : 16 ≤ i.lastPos) (valid : i.operandsValid = true)
    (c : Ctx) (s : State) : Segment i c s (coilSegment pattern c s) := by
  have hstep {p : Prop} (h : i.isStep = true) : p := by simp [hs] at h
  have hissue {u : State} {k : Nat} {d : State → State} (quiet : Quiet i id s u) (hk : c.pos = k)
      (done : 16 ≤ k → Segment i c s (d u)) :
      Segment i c s (Machine.issue (coilWrites s.params.wiring pattern) k d u) :=
    outputIssue hi hf quiet hk (by simpa using len) (fun _ => valid) (fun h => coilWrites_output h.config _) hstep
      fun h => done (by simpa using h)
  unfold Machine.coilSegment
  split
  next hpos => exact of_gated hs (hissue (.beginPulse hu s) hpos fun h => absurd h (by decide))
  next =>
    exact of_answered (fun _ => busFail hs (.endPulse hu s) _) fun _ =>
      hissue (.refl i s) rfl fun _ => respond (.endPulse hu s) _ _ hstep

/-- The end of a step loop (R180, R188). -/
theorem endStep (hs : i.isStep = true) (quiet : Quiet i f s u) (loop : LoopStep c s.seqState .idle false)
    (d : Ctx) (duration : Rat) (cancelled : Bool) : Segment i c s (u.endStep d duration cancelled) :=
  respond (quiet.trans (.endLoop hs u)) _ _ fun _ => loop

/-- The start of an iteration (R180). -/
theorem beginIteration {dir : Dir} {count : BitVec 32} (quiet : Quiet (.step dir count) f s u)
    (loop : LoopStep c s.seqState u.seqState true) (d : Ctx) :
    Segment (.step dir count) c s (u.beginIteration d) := by
  obtain ⟨w, hw, he⟩ := u.beginIteration_eq d
  rw [he]
  have hquiet := (((quiet.trans (.readClock (.inr (.inr rfl)) u)).trans
    (.modCtx _ (Ctx.startIteration u.readClock.lastClock) _ (fun _ => rfl) fun _ => rfl)).trans
    (.setStepIndex rfl (nextIndex u.stepIndex d.dir) _)).trans (.beginPulse rfl _)
  refine outputWrite rfl rfl hquiet (fun _ => ⟨show (0 : Nat) < 17 by decide, rfl⟩) (fun h => ?_) fun _ => by
    simpa using loop
  rw [quiet.params] at hw
  exact coilWrites_output h.config _ w (List.mem_of_getElem? hw)

/-- The top of the loop (R180): another iteration, or the end. -/
theorem loopTop {dir : Dir} {count : BitVec 32} (quiet : Quiet (.step dir count) f s u)
    (more : LoopStep c s.seqState u.seqState true) (done : LoopStep c s.seqState .idle false) (d : Ctx) :
    Segment (.step dir count) c s (u.loopTop d) := by
  rcases Nat.lt_or_ge d.i d.count.toNat with h | h
  · cases hc : u.cancel with
    | false => exact State.loopTop_more h hc ▸ beginIteration quiet more d
    | true => exact State.loopTop_cancelled h hc ▸ endStep rfl quiet done d _ _
  · exact State.loopTop_done h ▸ endStep rfl quiet done d _ _

/-- A loop past segment 1 goes on with `seqState` as it is, or ends Idle (R188). -/
theorem loopStep_inside (hpos : 0 < c.pos) (x : SeqState) : LoopStep c x x true ∧ LoopStep c x .idle false :=
  ⟨⟨fun h => by omega, nofun, fun _ _ => rfl, nofun⟩, ⟨nofun, fun h => by omega, nofun, fun _ _ => rfl⟩⟩

/-- The end of an iteration (R180). -/
theorem endIteration {dir : Dir} {count : BitVec 32} (hpos : 0 < c.pos) (quiet : Quiet (.step dir count) f s u)
    (same : u.seqState = s.seqState) (d : Ctx) (t : Rat) : Segment (.step dir count) c s (u.endIteration d t) :=
  have ⟨hmore, hdone⟩ := loopStep_inside hpos s.seqState
  loopTop (quiet.trans (.modCtx _ (Ctx.endIteration t) u (fun _ => rfl) fun _ => rfl))
    (by simpa [same] using hmore) hdone _

/-- Step 4 of an iteration (R180): a wait, or the next iteration at once. -/
theorem measure {dir : Dir} {count : BitVec 32} (hpos : 16 ≤ c.pos) (hlast : c.pos ≠ 17) (s : State) :
    Segment (.step dir count) c s (s.measure c) := by
  have hquiet : Quiet (.step dir count) id s s.endPulse.readClock :=
    (Quiet.endPulse rfl s).trans (.readClock (.inr (.inr rfl)) _)
  unfold State.measure
  dsimp only
  split
  next =>
    exact .mk (.wait _) hquiet
      { fault := nofun, mode := nofun, init := nofun, setfreq := nofun
        allowed := fun _ => trivial
        next := fun h _ => ⟨show c.pos < 17 from lt_of_le_of_ne h.pos hlast, rfl⟩
        loop := fun _ => by
          simpa [Closing.continues] using (loopStep_inside (by omega) s.seqState).1 }
  next => exact endIteration (by omega) hquiet (by simp) _ _

/-- STEP (R180 to R182, R190). -/
theorem stepFirst {dir : Dir} {count : BitVec 32} (hpos : c.pos = 0) (s : State) :
    Segment (.step dir count) c s (stepFirst dir count c s) := by
  have hraise (status : Status) : Segment (.step dir count) c s (s.raise status) :=
    respond (.refl _ s) _ _ fun _ => ⟨nofun, fun _ _ => rfl, nofun, fun h => by omega⟩
  unfold Machine.stepFirst gated
  split
  next =>
    split
    next => exact hraise _
    next hcon =>
      have hidle : s.seqState = .idle := by
        cases h : s.seqState with
        | idle => rfl
        | stepping => simp [State.contended, h] at hcon
      exact loopTop ((Quiet.beginLoop rfl s).trans (.modCtx _ (Ctx.startLoop dir count) _ (fun _ => rfl) fun _ => rfl))
        ⟨fun _ _ => ⟨hidle, by simp⟩, nofun, fun h => by omega, nofun⟩
        ⟨nofun, fun _ _ => hidle.symm, nofun, fun h => by omega⟩ _
  next => exact hraise _

/-- The segments of STEP after the first. -/
theorem stepRest {dir : Dir} {count : BitVec 32} (hpos : 0 < c.pos) (hlast : c.pos ≠ 17) (s : State) :
    Segment (.step dir count) c s
      (Machine.answered c (s.stepFail c) (Machine.issue s.stepWrites c.pos (State.measure c) s)) := by
  obtain ⟨hmore, hdone⟩ := loopStep_inside hpos s.seqState
  refine of_answered (fun _ => ?_) fun _ => ?_
  · exact respond ((Quiet.endPulse rfl s).trans (.endLoop rfl _)) _ _ fun _ => hdone
  · refine outputIssue rfl rfl (.refl _ s) rfl (s.stepWrites_length.trans_le (show 16 ≤ 17 by decide))
      (fun _ => rfl)
      (fun h => coilWrites_output h.config _) (fun _ _ => hmore) fun h => measure ?_ hlast s
    rwa [State.stepWrites_length] at h

/-- SETSTR (R165). -/
theorem setstrFirst {num : BitVec 32} {den : BitVec 24} (hpos : c.pos = 0) (s : State) :
    Segment (.setstr num den) c s (gated s
      (if validTick (dutyOf (strOperand num den)) then
        Machine.issue (dutyWrites s.params.wiring (dutyOf (strOperand num den))) 0 id
          (s.modCtx (Ctx.keepDuty (dutyOf (strOperand num den))))
       else s.raise .validation)) := by
  refine of_gated rfl ?_
  split
  next hv =>
    exact outputIssue rfl rfl (.modCtx _ (Ctx.keepDuty _) s (fun _ => rfl) fun _ => rfl) hpos le_rfl (fun _ => hv)
      (fun h => dutyWrites_output h.config _) nofun fun h => absurd h (by simp)
  next => exact respond (.refl _ s) _ _ nofun

end Segment

/-- The operands of the group commands, where they pass their checks, name output registers (R52, R53). -/
theorem groupCommand_output (ch : BitVec 8) (onTick offTick : BitVec 16) (pin : PinState) :
    ((Instr.wrch ch onTick offTick).operandsValid = true →
      ∀ w ∈ wrchWrites ch onTick offTick, outputReg w.reg = true) ∧
    ((Instr.setpin ch pin).operandsValid = true → ∀ w ∈ pinWrites ch.toNat pin, outputReg w.reg = true) := by
  refine ⟨fun h => ?_, fun h => pinWrites_output ((validCh_iff _).1 h) pin⟩
  simp only [Instr.operandsValid, Bool.and_eq_true, validCh_iff] at h
  obtain ⟨⟨hch, -⟩, -⟩ := h
  exact groupWrites_output hch _ _

/-- What a segment of any command does (R71). -/
theorem exec_segment {i : Instr} {c : Ctx} {s t : State} (hc : s.ctx? = some c) (h : exec i s = .next t) :
    Segment i c s t := by
  have hfail (j : Instr) (hj : j.isStep = false) : Segment j c s (s.busFail c .none) := .busFail hj (.refl j s) _
  have hok (j : Instr) (hj : j.isStep = false) : Segment j c s (s.respond .ok .none) :=
    .respond (.refl j s) _ _ fun h => by simp [hj] at h
  cases i <;> obtain ⟨c', hc', rfl⟩ := onCtx_next_iff.1 h <;> obtain rfl : c = c' := Option.some.inj (hc.symm.trans hc')
  case init => exact .initSegment c s
  case wrch ch onTick offTick =>
    obtain ⟨hfirst, hrest⟩ := Segment.groupCommand (i := .wrch ch onTick offTick) (c := c) rfl rfl rfl rfl
      (groupCommand_output ch onTick offTick .on).1 s
    split
    next hpos => exact hfirst hpos
    next hpos => exact hrest (Nat.pos_of_ne_zero hpos)
  case wrall onTick offTick =>
    obtain ⟨hfirst, hrest⟩ := Segment.groupCommand (i := .wrall onTick offTick) (c := c) rfl rfl rfl rfl
      (fun _ => allWrites_output _ _) s
    split
    next hpos => exact hfirst hpos
    next hpos => exact hrest (Nat.pos_of_ne_zero hpos)
  case setpin ch pin =>
    obtain ⟨hfirst, hrest⟩ := Segment.groupCommand (i := .setpin ch pin) (c := c) rfl rfl rfl
      (pinWrites_length _ _) (groupCommand_output ch 0 0 pin).2 s
    split
    next hpos => exact hfirst hpos
    next hpos => exact hrest (Nat.pos_of_ne_zero hpos)
  case setfreq num den =>
    split
    next hpos => exact .setfreqFirst hpos s
    next => exact .setfreqRest c s
  case getfreq =>
    split
    next hpos => exact .getfreqFirst hpos s
    next =>
      exact .of_answered (fun _ => hfail _ rfl) fun _ =>
        .respond (.modCtx _ (Ctx.keepP8 c.answer.byte) s (fun _ => rfl) fun _ => rfl) _ _ nofun
  case swreset =>
    split
    next hpos => exact .swresetFirst hpos s
    next => exact .of_answered (fun _ => hfail _ rfl) fun _ => hok _ rfl
  case setstr num den =>
    split
    next hpos => exact .setstrFirst hpos s
    next hpos =>
      exact .of_answered (fun _ => hfail _ rfl) fun _ =>
        .outputIssue rfl rfl (.refl _ s) rfl le_rfl (fun h => h.valid (Nat.pos_of_ne_zero hpos))
          (fun h => dutyWrites_output h.config _) nofun fun _ =>
            .respond (.setThrottle rfl (strOperand num den) s) _ _ nofun
  case coils pattern => exact .coilSegment rfl rfl rfl rfl le_rfl rfl c s
  case idle => exact .coilSegment rfl rfl rfl rfl le_rfl rfl c s
  case step dir count =>
    split
    next hpos => exact .stepFirst hpos s
    next hpos => exact .endIteration (by omega) (.resume (.inr (.inr rfl)) c s) (by simp) _ _
    next hpos hlast => exact .stepRest (Nat.pos_of_ne_zero hpos) hlast s
  case stop => exact .respond (.requestStop rfl s) _ _ nofun

/-! ### The frame of a segment -/

theorem exec_ctx {i : Instr} {s t : State} (h : exec i s = .next t) : ∃ c, s.ctx? = some c := by
  cases i <;> exact (onCtx_next_iff.1 h).imp fun _ hc => hc.1

/-- A segment writes only what its command writes. -/
theorem Segment.writes {i : Instr} {c : Ctx} {s t : State} (h : Segment i c s t) : Writes i s t := by
  obtain ⟨a, quiet, closes⟩ := h
  exact quiet.writes.trans (Closing.run_writes _ closes.fault)

/-- Settles O42: `exec_frame` for what no command touches, `Writes` for the elements with writers. -/
theorem segmentsKeepTheirFrame : Obligations.SegmentsKeepTheirFrame := by
  intro i s t h
  obtain ⟨c, hc⟩ := exec_ctx h
  have w := (exec_segment hc h).writes
  have f := exec_frame h
  exact ⟨f.params, f.refused, f.cur, f.turns, w.ready, fun hi => ⟨w.stepIndex hi, w.seqState hi⟩, w.throttle, w.pulsing,
    w.cancel, w.faulted, w.lastClock, w.marks, f.clock, f.trace, f.len, f.other⟩

/-! ### The invariant of the block -/

/-- A context that holds its command is sound when it is the word's, past segment 1, with operands that passed. -/
theorem Ctx.sound_iff_of_cmd {c : Ctx} {i : Instr} (h : c.cmd = some i) :
    c.sound ↔ decode c.word = .legal i ∧ 0 < c.pos ∧ c.pos ≤ i.lastPos ∧ i.operandsValid = true := by
  simp [Ctx.sound, h]

theorem Ctx.sound_iff_of_no_cmd {c : Ctx} (h : c.cmd = none) : c.sound ↔ c.pos = 0 := by simp [Ctx.sound, h]

/-- A free port is sound. -/
theorem Port.sound_free (p : Params) (r : Option Response) : Port.sound p ⟨false, none, r⟩ := 
  ⟨fun _ => rfl, fun h => by simp at h, fun _ h => by simp at h⟩

/-- A port that takes a word is sound in a good configuration. -/
theorem Port.sound_take {p : Params} (h : p.ok = true) (w : Word) (q : Port) : (q.take w).sound p :=
  ⟨fun hb => by simp [Port.take] at hb, fun _ => h, fun _ hc =>
    Option.some.inj hc ▸ (Ctx.sound_iff_of_no_cmd rfl).2 rfl⟩

/-- A port with a command in flight is busy, in a good configuration, with a sound context. -/
theorem Port.sound_running {p : Params} {q : Port} {c : Ctx} (h : q.sound p) (hc : q.ctx = some c) :
    q.busy = true ∧ p.ok = true ∧ c.sound := by
  obtain ⟨hidle, hok, hctx⟩ := h
  have hb : q.busy = true := by
    by_contra hb
    simp [hidle (by simpa using hb)] at hc
  exact ⟨hb, hok hb, hctx c hc⟩

/-- Sound ports stay sound when one of them is replaced by a sound port. -/
theorem ports_sound_modify {p : Params} {l : List Port} {n : Nat} {f : Port → Port} (h : ∀ q ∈ l, q.sound p)
    (hf : ∀ q, l[n]? = some q → (f q).sound p) : ∀ q ∈ l.modify n f, q.sound p := by
  intro q hq
  obtain ⟨m, hm⟩ := List.mem_iff_getElem?.1 hq
  by_cases hmn : n = m
  · subst hmn
    simp only [List.getElem?_modify_eq, Option.map_eq_map, Option.map_eq_some_iff] at hm
    obtain ⟨x, hx, rfl⟩ := hm
    exact hf x hx
  · rw [List.getElem?_modify_ne _ _ hmn] at hm
    exact h q (List.mem_of_getElem? hm)

/-- The port of a command in flight. -/
theorem State.port_of_ctxAt {s : State} {p : Nat} {c : Ctx} (h : s.ctxAt p = some c) :
    ∃ q, s.ports[p]? = some q ∧ q.ctx = some c := Option.bind_eq_some_iff.mp h

/-- A command in flight in a state with the invariant: a good configuration and a sound context. -/
theorem State.Inv.running {s : State} {p : Nat} {c : Ctx} (h : s.Inv) (hc : s.ctxAt p = some c) :
    s.params.ok = true ∧ c.sound := by
  obtain ⟨q, hq, hqc⟩ := State.port_of_ctxAt hc
  obtain ⟨-, hok, hsound⟩ := Port.sound_running (h.ports q (List.mem_of_getElem? hq)) hqc
  exact ⟨hok, hsound⟩

/-- An idle port of a state with the invariant has no command in flight. -/
theorem State.Inv.ctxAt_of_idle {s : State} {p : Nat} {q : Port} (h : s.Inv) (hq : s.ports[p]? = some q)
    (hidle : q.busy = false) : s.ctxAt p = none := by
  obtain ⟨hnone, -, -⟩ := h.ports q (List.mem_of_getElem? hq)
  simp [State.ctxAt, hq, hnone hidle]

/-- A command whose segment a step runs is live, and its word decodes to it. -/
theorem State.Inv.live {s : State} {p : Nat} {c : Ctx} {i : Instr} (h : s.Inv) (hc : s.ctxAt p = some c)
    (hi : c.holds i) (e : Env) : decode c.word = .legal i ∧ Live i (c.decoded i) (s.pick e p i) := by
  obtain ⟨hok, hsound⟩ := h.running hc
  obtain hcmd | ⟨hcmd, hdec⟩ := hi
  · obtain ⟨hdec, -, hlast, hvalid⟩ := (Ctx.sound_iff_of_cmd hcmd).1 hsound
    exact ⟨hdec, hlast, fun _ => hvalid, hok⟩
  · have hpos : (c.decoded i).pos = 0 := (Ctx.sound_iff_of_no_cmd hcmd).1 hsound
    exact ⟨hdec, by omega, fun h => by omega, hok⟩

/-- The event of an allowed closing action is one the block may leave. -/
theorem Closing.event_allowed {a : Closing} {s : State} (h : a.allowed s.params) :
    (a.event s).allowed s.params = true := by
  cases a with
  | write reg v =>
    obtain ⟨hlegal, hmode2⟩ := h
    by_cases hr : reg = regMode2 <;> simp_all [event, Event.allowed]
  | read reg => simpa [event, Event.allowed, allowed] using h
  | send dev b => simpa [event, Event.allowed, allowed] using h
  | wait d => rfl
  | respond status data => rfl
  | fault reason => rfl

/-- An allowed event may be added to the trace. -/
theorem allowed_append {ps : Params} {tr : List Event} {e : Event} (htr : ∀ e ∈ tr, e.allowed ps = true)
    (he : e.allowed ps = true) : ∀ x ∈ tr ++ [e], x.allowed ps = true := by
  simp only [List.forall_mem_append, List.forall_mem_singleton]
  exact ⟨htr, he⟩

theorem ClocksAdded.allowed {p : Nat} {ps : Params} {tr tr' : List Event} (h : ClocksAdded p tr tr')
    (htr : ∀ e ∈ tr, e.allowed ps = true) : ∀ e ∈ tr', e.allowed ps = true := by
  induction h with
  | none => exact htr
  | clock _ nonneg ih => exact allowed_append ih (decide_eq_true nonneg)

/-- What a closing action makes of its port: free with the response, or the same with the next context. -/
def Closing.port (s : State) : Closing → Port → Port
  | .respond status data, _ => ⟨false, none, some ⟨status, data⟩⟩
  | a, q => { q with ctx := q.ctx.bind (a.context s) }

theorem Closing.run_ports (a : Closing) (s : State) : (a.run s).ports = s.ports.modify s.cur (a.port s) := by
  cases a with
  | respond status data => exact State.respond_ports status data s
  | fault reason =>
    rw [run, State.fault_ports]
    congr 1
    funext q
    cases h : q.ctx <;> simp [port, context, h]
  | _ =>
    simp only [run, State.busWrite, State.busRead, State.busSend, State.waitUntil, State.modCtx_ports,
      State.emit_ports, State.setEnv_ports, State.emit_cur, State.setEnv_cur]
    congr 1
    funext q
    cases h : q.ctx <;> simp [port, context, h]

/-- The port of a running command is sound after its closing action. -/
theorem Closing.port_sound {a : Closing} {s : State} {q : Port} {c : Ctx} {p : Params} (hc : q.ctx = some c)
    (hbusy : q.busy = true) (hok : p.ok = true) (hnext : ∀ c', a.context s c = some c' → c'.sound) :
    (a.port s q).sound p := by
  cases a with
  | respond status data => exact Port.sound_free _ _
  | _ => exact ⟨fun h => by simp [port, hbusy] at h, fun _ => hok, fun c' h => hnext c' (by simpa [port, hc] using h)⟩

/-- A word on an idle port of a block that is not refused: the configuration is good (R207). -/
theorem State.Inv.config_of_accepts {s : State} {p : Nat} (h : s.Inv) (hacc : s.accepts p = true) :
    s.params.ok = true := by
  obtain ⟨-, href⟩ := (s.accepts_iff p).1 hacc
  simpa [href] using h.refusal

/-- The next context of a live command is sound. -/
theorem Segment.next_sound {i : Instr} {c c' c'' : Ctx} {s u : State} {a : Closing} (live : Live i c s)
    (closes : Closes i c c' s u a) (hcmd : c'.cmd = some i) (hdec : decode c'.word = .legal i)
    (h : a.context u c' = some c'') : c''.sound := by
  obtain ⟨hgo, hcmd', hword, hpos⟩ := Closing.context_some h
  obtain ⟨hlast, hvalid⟩ := closes.next live hgo
  refine (Ctx.sound_iff_of_cmd (hcmd'.trans hcmd)).2 ⟨hword ▸ hdec, by omega, by omega, hvalid⟩

/-- Every step keeps the invariant of the block. -/
theorem State.Inv.step {s t : State} (h : s.Inv) (hstep : step s = .next t) : t.Inv := by
  cases step_cases hstep with
  | pass e => exact ⟨h.portCount, h.refusal, h.clock, h.ports, h.events⟩
  | @accept p w rest hturn hacc =>
    refine ⟨?_, h.refusal, h.clock, ?_, ?_⟩
    · exact (List.length_modify _ _ _).trans h.portCount
    · exact ports_sound_modify h.ports fun q _ => Port.sound_take (h.config_of_accepts hacc) w q
    · exact allowed_append h.events rfl
  | illegal e hctx hcmd =>
    exact ⟨(List.length_modify _ _ _).trans h.portCount, h.refusal, h.clock,
      ports_sound_modify h.ports fun _ _ => Port.sound_free _ _, allowed_append h.events rfl⟩
  | @segment e p c i _ hctx hi hrun =>
    obtain ⟨hdec, live⟩ := h.live hctx hi e
    have frame := exec_frame hrun
    obtain @⟨f, u, a, quiet, closes⟩ := exec_segment (State.pick_ctx? hctx e i) hrun
    have hparams : u.params = s.params := quiet.params
    refine ⟨?_, ?_, h.clock.trans frame.clock, ?_, ?_⟩
    · rw [frame.len, frame.params, State.pick_ports, List.length_modify]
      exact h.portCount
    · rw [frame.refused, frame.params]
      exact h.refusal
    · rw [frame.params, Closing.run_ports, quiet.ports, quiet.cur, State.pick_ports, State.pick_cur,
        List.modify_modify_eq, List.modify_modify_eq]
      refine ports_sound_modify h.ports fun q hq => ?_
      obtain ⟨q', hq', hqc⟩ := State.port_of_ctxAt hctx
      obtain rfl : q' = q := Option.some.inj (hq'.symm.trans hq)
      obtain ⟨hbusy, hok, -⟩ := Port.sound_running (h.ports q' (List.mem_of_getElem? hq)) hqc
      exact Closing.port_sound (by simp [hqc]) hbusy hok fun c' =>
        Segment.next_sound live closes (quiet.cmd _) ((quiet.word _).symm ▸ hdec)
    · rw [frame.params, Closing.run_trace]
      refine allowed_append (quiet.trace.allowed h.events) ?_
      have := Closing.event_allowed (a := a) (s := u) (hparams ▸ closes.allowed live)
      rwa [hparams] at this

/-! ### The discipline of MODE1 (R117) -/

/-- Every write of MODE1 in the trace keeps R117. -/
def ModeWrites (dev : DevAddr) (tr : List Event) : Prop :=
  ∀ es p d v a rest, tr = es ++ Event.write p d regMode1 v a :: rest → modeWriteLegal dev p v es

/-- One event more: where it is a write of MODE1, it must keep R117. -/
theorem ModeWrites.append {dev : DevAddr} {tr : List Event} {e : Event} (h : ModeWrites dev tr)
    (he : ∀ p d v a, e = .write p d regMode1 v a → modeWriteLegal dev p v tr) : ModeWrites dev (tr ++ [e]) := by
  intro es p d v a rest heq
  rcases List.eq_nil_or_concat rest with rfl | ⟨rest', x, rfl⟩
  · obtain ⟨rfl, hx⟩ := List.append_inj' heq rfl
    exact he p d v a (List.singleton_inj.1 hx)
  · have heq' : tr ++ [e] = (es ++ Event.write p d regMode1 v a :: rest') ++ [x] := by simpa using heq
    exact h es p d v a rest' (List.append_inj' heq' rfl).1

theorem ClocksAdded.modeWrites {dev : DevAddr} {p : Nat} {tr tr' : List Event} (h : ClocksAdded p tr tr')
    (htr : ModeWrites dev tr) : ModeWrites dev tr' := by
  induction h with
  | none => exact htr
  | clock _ _ ih => exact ih.append nofun

/-- Clock readings of one port are none of another port's events. -/
theorem ClocksAdded.commandEvents_other {p q : Nat} {tr tr' : List Event} (h : ClocksAdded p tr tr') (hpq : p ≠ q) :
    commandEvents q tr' = commandEvents q tr := by
  induction h with
  | none => rfl
  | clock _ _ ih => rw [Machine.commandEvents_other (by exact hpq), ih]

/-- A byte read stays read over clock readings. -/
theorem ClocksAdded.readsMode1 {dev : DevAddr} {p : Nat} {b : Byte} {tr tr' : List Event} (h : ClocksAdded p tr tr')
    (hr : readsMode1 dev p b tr) : readsMode1 dev p b tr' := by
  induction h with
  | none => exact hr
  | clock _ _ ih => exact readsMode1_mono ih fun _ => rfl

/-- Only the events of a context's own command say whether it is sound for MODE1. -/
theorem Ctx.modeSound_congr {dev : DevAddr} {p : Nat} {tr tr' : List Event} {c : Ctx}
    (h : commandEvents p tr' = commandEvents p tr) (hc : c.modeSound dev p tr) : c.modeSound dev p tr' := by
  simpa only [Ctx.modeSound, Ctx.answerReadMode1, readsMode1, atInitStep3, h] using hc

theorem Ctx.modeSound_init {dev : DevAddr} {p : Nat} {tr : List Event} {c : Ctx} (h : c.cmd = some .init) :
    c.modeSound dev p tr ↔
      (c.pos = 5 → c.answer = .err ∨ atInitStep3 dev p tr) ∧ (c.pos = 8 → c.answerReadMode1 dev p tr) := by
  simp [Ctx.modeSound, h]

theorem Ctx.modeSound_setfreq {dev : DevAddr} {p : Nat} {tr : List Event} {c : Ctx} {num : BitVec 32}
    {den : BitVec 24} (h : c.cmd = some (.setfreq num den)) :
    c.modeSound dev p tr ↔ (c.pos = 1 → c.answerReadMode1 dev p tr) ∧ (2 ≤ c.pos → readsMode1 dev p c.old tr) := by
  simp [Ctx.modeSound, h]

/-- The other commands hold nothing for MODE1, nor does a context before its segment 1. -/
theorem Ctx.modeSound_of_other {dev : DevAddr} {p : Nat} {tr : List Event} {c : Ctx}
    (h : ∀ i, c.cmd = some i → i.isInit = false ∧ i.isSetfreq = false) : c.modeSound dev p tr := by
  unfold Ctx.modeSound
  split
  next hc => exact absurd (h _ hc).1 (by decide)
  next hc => exact absurd (h _ hc).2 Bool.noConfusion
  next => trivial

/-- Before segment 1 a context holds nothing for MODE1. -/
theorem Ctx.modeSound_of_pos_zero {dev : DevAddr} {p : Nat} {tr : List Event} {c : Ctx} (h : c.pos = 0) :
    c.modeSound dev p tr := by
  unfold Ctx.modeSound
  split
  · exact ⟨fun _ => by omega, fun _ => by omega⟩
  · exact ⟨fun _ => by omega, fun _ => by omega⟩
  · trivial

/-- Decoding the word makes no difference. -/
theorem Ctx.modeSound_decoded {dev : DevAddr} {p : Nat} {tr : List Event} {c : Ctx} {i : Instr} (hsound : c.sound)
    (hi : c.holds i) (h : c.modeSound dev p tr) : (c.decoded i).modeSound dev p tr := by
  obtain hcmd | ⟨hcmd, -⟩ := hi
  · have hd : c.decoded i = c := by rw [Ctx.decoded, ← hcmd]
    rwa [hd]
  · exact Ctx.modeSound_of_pos_zero ((Ctx.sound_iff_of_no_cmd hcmd).1 hsound)

/-- After a read of MODE1 a context waits to use that byte. -/
theorem Ctx.answerReadMode1_tookRead (s : State) (c : Ctx) :
    (c.tookRead s.env.nextRead).answerReadMode1 s.params.dev s.cur
      (s.trace ++ [(Closing.read regMode1).event s]) := by
  unfold Ctx.answerReadMode1
  cases h : s.env.nextRead with
  | err => exact .inl rfl
  | ok b => exact .inr ⟨b, rfl, by simpa [Closing.event, h] using readsMode1_read s.params.dev s.cur b s.trace⟩

section

variable {f : Ctx → Ctx} {c : Ctx} {s u : State} {a : Closing} {num : BitVec 32} {den : BitVec 24}

/-- INIT keeps R117: step 3 follows step 2, and step 5 writes the wake byte of the byte read (R120). -/
theorem Closes.init_mode (quiet : Quiet .init f s u) (closes : Closes .init c (f c) s u a) (hcmd : c.cmd = some .init)
    (hm : c.modeSound s.params.dev s.cur s.trace) :
    (∀ v, a = .write regMode1 v → modeWriteLegal s.params.dev s.cur v u.trace) ∧
      ∀ c', a.context u (f c) = some c' → c'.modeSound s.params.dev s.cur (u.trace ++ [a.event u]) := by
  obtain ⟨hpos, hwrite, hstep2, hread⟩ := closes.init rfl
  obtain ⟨hm5, hm8⟩ := (Ctx.modeSound_init hcmd).1 hm
  refine ⟨fun v hv => ?_, fun c' hc' => ?_⟩
  · obtain ⟨hok, ⟨h5, rfl, htr⟩ | ⟨h8, rfl⟩⟩ := hwrite v hv
    · exact .inl ⟨rfl, htr ▸ (hm5 h5).resolve_left hok⟩
    · obtain ⟨b, hb, hr⟩ := (hm8 h8).resolve_left hok
      exact .inr ⟨b, quiet.trace.readsMode1 hr, .inr (.inr (.inl (by rw [hb]; rfl)))⟩
  · obtain ⟨hgo, hcmd', -, hpos'⟩ := Closing.context_some hc'
    rw [hpos hgo] at hpos'
    rw [← quiet.params, ← quiet.cur]
    refine (Ctx.modeSound_init (hcmd'.trans ((quiet.cmd c).trans hcmd))).2 ⟨fun h5 => ?_, fun h8 => ?_⟩
    · obtain rfl := hstep2 hgo (by omega)
      obtain rfl := Option.some.inj hc'
      cases hack : u.env.nextAck with
      | err => exact .inl (by simp [Answer.ofAck])
      | ok => exact .inr (by simpa [Closing.event, hack] using atInitStep3_write u.params.dev u.cur u.trace)
    · obtain rfl := hread hgo (by omega)
      obtain rfl := Option.some.inj hc'
      exact Ctx.answerReadMode1_tookRead u _

/-- SETFREQ keeps R117: it writes the sleep byte of the byte read, that byte, and its restart byte (R140). -/
theorem Closes.setfreq_mode (quiet : Quiet (.setfreq num den) f s u) (closes : Closes (.setfreq num den) c (f c) s u a)
    (hcmd : c.cmd = some (.setfreq num den)) (hm : c.modeSound s.params.dev s.cur s.trace) :
    (∀ v, a = .write regMode1 v → modeWriteLegal s.params.dev s.cur v u.trace) ∧
      ∀ c', a.context u (f c) = some c' → c'.modeSound s.params.dev s.cur (u.trace ++ [a.event u]) := by
  obtain ⟨hpos, hwrite, hread, hkeep, hkept⟩ := closes.setfreq rfl
  obtain ⟨hm1, hm2⟩ := (Ctx.modeSound_setfreq hcmd).1 hm
  refine ⟨fun v hv => ?_, fun c' hc' => ?_⟩
  · obtain ⟨h1, hok, rfl⟩ | ⟨h2, hv⟩ := hwrite v hv
    · obtain ⟨b, hb, hr⟩ := (hm1 h1).resolve_left hok
      exact .inr ⟨b, quiet.trace.readsMode1 hr, .inr (.inl (by rw [hb]; rfl))⟩
    · exact .inr ⟨c.old, quiet.trace.readsMode1 (hm2 h2), hv.imp_right fun h => .inr (.inr h)⟩
  · obtain ⟨hgo, hcmd', -, hpos'⟩ := Closing.context_some hc'
    rw [hpos hgo] at hpos'
    refine (Ctx.modeSound_setfreq (hcmd'.trans ((quiet.cmd c).trans hcmd))).2 ⟨fun h1 => ?_, fun h2 => ?_⟩
    · obtain rfl := hread hgo (by omega)
      obtain rfl := Option.some.inj hc'
      rw [← quiet.params, ← quiet.cur]
      exact Ctx.answerReadMode1_tookRead u _
    · have hr : readsMode1 s.params.dev s.cur (f c).old s.trace := by
        rcases Nat.lt_or_ge c.pos 2 with hlt | hge
        · obtain ⟨hok, hold⟩ := hkeep hgo (by omega)
          obtain ⟨b, hb, hr⟩ := (hm1 (by omega)).resolve_left hok
          rwa [hold, hb]
        · rw [hkept hgo hge]
          exact hm2 hge
      have hold : c'.old = (f c).old := Closing.context_old hc'
      rw [hold]
      exact readsMode1_mono (quiet.trace.readsMode1 hr) fun _ => by rw [Closing.event_bounds, hgo]; rfl

/-- A segment of any command keeps R117. -/
theorem Closes.keeps_mode {i : Instr} (live : Live i c s) (quiet : Quiet i f s u) (closes : Closes i c (f c) s u a)
    (hcmd : c.cmd = some i) (hm : c.modeSound s.params.dev s.cur s.trace) :
    (∀ v, a = .write regMode1 v → modeWriteLegal s.params.dev s.cur v u.trace) ∧
      ∀ c', a.context u (f c) = some c' → c'.modeSound s.params.dev s.cur (u.trace ++ [a.event u]) := by
  have hother (hi : i.isInit = false) (hf : i.isSetfreq = false) :
      (∀ v, a = .write regMode1 v → modeWriteLegal s.params.dev s.cur v u.trace) ∧
        ∀ c', a.context u (f c) = some c' → c'.modeSound s.params.dev s.cur (u.trace ++ [a.event u]) := by
    refine ⟨fun v hv => absurd hv (closes.mode live hi hf v), fun c' hc' => Ctx.modeSound_of_other fun j hj => ?_⟩
    obtain ⟨-, hcmd', -, -⟩ := Closing.context_some hc'
    obtain rfl : i = j := Option.some.inj ((hcmd'.trans ((quiet.cmd c).trans hcmd)).symm.trans hj)
    exact ⟨hi, hf⟩
  cases i with
  | init => exact closes.init_mode quiet hcmd hm
  | setfreq num den => exact closes.setfreq_mode quiet hcmd hm
  | _ => exact hother rfl rfl

end

/-- A step's event of another port leaves the contexts as sound for MODE1 as they were. -/
theorem State.ModeInv.other {s : State} (h : s.ModeInv) {p q : Nat} {c : Ctx} (hctx : s.ctxAt q = some c)
    {tr : List Event} (hclocks : ClocksAdded p s.trace tr) {e : Event} (he : e.port = p) (hpq : p ≠ q) :
    c.modeSound s.params.dev q (tr ++ [e]) := by
  refine Ctx.modeSound_congr ?_ (h.held q c hctx)
  rw [Machine.commandEvents_other (by rw [he]; exact hpq), hclocks.commandEvents_other hpq]

/-- Every step keeps the discipline of MODE1. -/
theorem State.ModeInv.step {s t : State} (hinv : s.Inv) (h : s.ModeInv) (hstep : step s = .next t) : t.ModeInv := by
  cases step_cases hstep with
  | pass e => exact ⟨h.writes, h.held⟩
  | @accept p w rest hturn hacc =>
    obtain ⟨⟨x, hx, -⟩, -⟩ := (s.accepts_iff p).1 hacc
    refine ⟨ModeWrites.append h.writes nofun, fun q c hc => ?_⟩
    rw [State.ctxAt_take (s := s.dropTurn) hx] at hc
    split at hc
    next => exact Ctx.modeSound_of_pos_zero (Option.some.inj hc ▸ rfl)
    next hpq => exact h.other hc .none rfl hpq
  | @illegal e p c hctx hcmd =>
    refine ⟨ModeWrites.append h.writes nofun, fun q c hc => ?_⟩
    rw [State.raise, State.ctxAt_respond] at hc
    split at hc
    next => simp at hc
    next hpq => exact h.other hc .none rfl hpq
  | @segment e p c i _ hctx hi hrun =>
    obtain ⟨-, live⟩ := hinv.live hctx hi e
    obtain ⟨-, hsound⟩ := hinv.running hctx
    obtain @⟨f, u, a, quiet, closes⟩ := exec_segment (State.pick_ctx? hctx e i) hrun
    have hparams : (a.run u).params = s.params := (exec_frame hrun).params
    have hcur : u.cur = p := quiet.cur
    obtain ⟨hwrite, hheld⟩ := closes.keeps_mode live quiet rfl
      (Ctx.modeSound_decoded hsound hi (h.held p c hctx))
    refine ⟨?_, fun q c' hc' => ?_⟩
    · have hall : ModeWrites s.params.dev (a.run u).trace := by
        rw [Closing.run_trace]
        refine (quiet.trace.modeWrites h.writes).append fun q d v x he => ?_
        obtain ⟨ha, rfl⟩ := Closing.eq_write_of_event he
        exact hcur ▸ hwrite v ha
      rw [hparams]
      exact hall
    · rw [quiet.run_ctxAt (State.pick_ctx? hctx e i), State.pick_cur] at hc'
      rw [hparams, Closing.run_trace]
      split at hc'
      next hpq => exact hpq ▸ hheld c' hc'
      next hpq =>
        have hctx' : s.ctxAt q = some c' := by simpa [hpq] using hc'
        exact h.other hctx' quiet.trace ((Closing.event_port a u).trans hcur) hpq

/-- Settles O54: the invariant of the block, and with it the discipline of MODE1, are kept by each of the four steps. -/
theorem stepKeepsInvariant : Obligations.StepKeepsInvariant :=
  ⟨fun _ _ h hstep => h.step hstep, fun _ _ hinv h hstep => h.step hinv hstep⟩

/-! ### At most one step loop (R190) -/

theorem State.inLoop_congr {s t : State} {p : Nat} (h : t.ctxAt p = s.ctxAt p) : t.inLoop p ↔ s.inLoop p := by
  simp only [State.inLoop, h]

theorem State.not_inLoop_of_none {s : State} {p : Nat} (h : s.ctxAt p = none) : ¬ s.inLoop p := by
  simp [State.inLoop, h]

/-- A command other than STEP is in no loop, nor is a context whose word is not decoded. -/
theorem State.not_inLoop_of_cmd {s : State} {p : Nat} {c : Ctx} (h : s.ctxAt p = some c)
    (hc : ∀ i, c.cmd = some i → i.isStep = false) : ¬ s.inLoop p := by
  rintro ⟨c', dir, count, hctx, hcmd, -⟩
  obtain rfl : c = c' := Option.some.inj (h.symm.trans hctx)
  exact absurd (hc _ hcmd) Bool.noConfusion

/-- STEP is in its loop exactly past segment 1. -/
theorem State.inLoop_iff_of_step {s : State} {p : Nat} {c : Ctx} {dir : Dir} {count : BitVec 32}
    (h : s.ctxAt p = some c) (hc : c.cmd = some (.step dir count)) : s.inLoop p ↔ 0 < c.pos := by
  simp [State.inLoop, h, hc]

theorem Ctx.holds.eq_of_cmd {c : Ctx} {i j : Instr} (h : c.holds i) (hj : c.cmd = some j) : i = j := by
  obtain hi | ⟨hi, -⟩ := h
  · exact Option.some.inj (hi.symm.trans hj)
  · simp [hi] at hj

theorem Instr.eq_step_of_isStep {i : Instr} (h : i.isStep = true) : ∃ dir count, i = .step dir count := by
  cases i with
  | step dir count => exact ⟨dir, count, rfl⟩
  | _ => exact absurd h Bool.noConfusion

/-- A sound context of STEP, decoded or not, is in its loop exactly past segment 1. -/
theorem Ctx.holds.inLoop_iff {s : State} {p : Nat} {c : Ctx} {i : Instr} (h : c.holds i) (hs : i.isStep = true)
    (hsound : c.sound) (hctx : s.ctxAt p = some c) : s.inLoop p ↔ 0 < c.pos := by
  obtain ⟨dir, count, rfl⟩ := Instr.eq_step_of_isStep hs
  obtain hcmd | ⟨hcmd, -⟩ := h
  · exact State.inLoop_iff_of_step hctx hcmd
  · have hpos := (Ctx.sound_iff_of_no_cmd hcmd).1 hsound
    exact iff_of_false (State.not_inLoop_of_cmd hctx fun i hi => by simp [hcmd] at hi) (by omega)

/-- A step that makes and ends no loop and leaves `seqState` alone keeps the loop invariant. -/
theorem State.LoopInv.congr {s t : State} (h : s.LoopInv) (hloop : ∀ p, t.inLoop p ↔ s.inLoop p)
    (hseq : t.seqState = s.seqState) : t.LoopInv := by
  refine ⟨fun p q hp hq => h.one p q ((hloop p).1 hp) ((hloop q).1 hq), ?_⟩
  simp only [hloop, hseq, h.flag]

/-- An Idle block has no step loop. -/
theorem State.LoopInv.no_loop {s : State} (h : s.LoopInv) (hidle : s.seqState = .idle) (p : Nat) : ¬ s.inLoop p :=
  fun hp => by simpa [hidle] using h.flag.2 ⟨p, hp⟩

/-- A step that leaves all ports but p alone, and neither starts nor ends a loop there. -/
theorem State.LoopInv.congr_at {s t : State} (h : s.LoopInv) (p : Nat) (hother : ∀ q, p ≠ q → t.ctxAt q = s.ctxAt q)
    (hp : t.inLoop p ↔ s.inLoop p) (hseq : t.seqState = s.seqState) : t.LoopInv :=
  h.congr (fun q => by
    by_cases hpq : p = q
    · exact hpq ▸ hp
    · exact State.inLoop_congr (hother q hpq)) hseq

/-- A block after reset has no step loop. -/
theorem State.LoopInv.reset (p : Params) (clock : Rat) : (State.resetWith p clock).LoopInv := by
  have hnone (q : Nat) : ¬ (State.resetWith p clock).inLoop q :=
    State.not_inLoop_of_none (State.ctxAt_of_idle (fun x hx => by
      obtain ⟨-, rfl⟩ := List.mem_replicate.1 hx
      exact ⟨rfl, rfl⟩) q)
  exact ⟨fun q _ hq => absurd hq (hnone q), ⟨nofun, fun ⟨q, hq⟩ => absurd hq (hnone q)⟩⟩

/-- A segment of STEP on port p: it enters the loop, goes on in it, or leaves it (R188, R190). -/
theorem State.LoopInv.step_segment {s t : State} {p : Nat} {c : Ctx} {continues : Bool} (h : s.LoopInv)
    (hbefore : s.inLoop p ↔ 0 < c.pos) (hafter : t.inLoop p ↔ continues = true)
    (hother : ∀ q, p ≠ q → t.ctxAt q = s.ctxAt q) (loop : LoopStep c s.seqState t.seqState continues) :
    t.LoopInv := by
  rcases Nat.eq_zero_or_pos c.pos with hpos | hpos <;> cases hc : continues
  · exact h.congr_at p hother (by simp [hbefore, hafter, hpos, hc]) (loop.stay hpos hc)
  · obtain ⟨hidle, hstepping⟩ := loop.enter hpos hc
    have honly (q : Nat) (hq : t.inLoop q) : p = q := by
      by_contra hpq
      exact h.no_loop hidle q ((State.inLoop_congr (hother q hpq)).1 hq)
    exact ⟨fun q r hq hr => (honly q hq).symm.trans (honly r hr), fun _ => ⟨p, hafter.2 hc⟩, fun _ => hstepping⟩
  · have hnone (q : Nat) : ¬ t.inLoop q := fun hq => by
      by_cases hpq : p = q
      · subst hpq
        simp [hafter, hc] at hq
      · exact hpq (h.one p q (hbefore.2 hpos) ((State.inLoop_congr (hother q hpq)).1 hq))
    have hidle := loop.leave hpos hc
    exact ⟨fun q _ hq => absurd hq (hnone q), fun hs => by simp [hidle] at hs, fun ⟨q, hq⟩ => absurd hq (hnone q)⟩
  · exact h.congr_at p hother (by simp [hbefore, hafter, hpos, hc]) (loop.goOn hpos hc)

/-- Every step keeps the loop invariant. -/
theorem State.LoopInv.step {s t : State} (hinv : s.Inv) (h : s.LoopInv) (hstep : step s = .next t) : t.LoopInv := by
  cases step_cases hstep with
  | pass e => exact h.congr (fun _ => State.inLoop_congr rfl) rfl
  | @accept p w rest hturn hacc =>
    obtain ⟨⟨x, hx, hidle⟩, -⟩ := (s.accepts_iff p).1 hacc
    have htake := State.ctxAt_take (s := s.dropTurn) hx w (.accept p w)
    refine h.congr_at p (fun q hpq => (htake q).trans (if_neg hpq)) (iff_of_false ?_ ?_) rfl
    · exact State.not_inLoop_of_cmd ((htake p).trans (if_pos rfl)) nofun
    · exact State.not_inLoop_of_none (hinv.ctxAt_of_idle hx hidle)
  | @illegal e p c hctx hcmd =>
    refine h.congr_at p (fun q hpq => by simp [State.raise, hpq]) ?_ (by simp [State.raise])
    exact iff_of_false (State.not_inLoop_of_none (by simp [State.raise]))
      (State.not_inLoop_of_cmd hctx fun i hi => by simp [hcmd] at hi)
  | @segment e p c i _ hctx hi hrun =>
    obtain ⟨-, hsound⟩ := hinv.running hctx
    obtain @⟨f, u, a, quiet, closes⟩ := exec_segment (State.pick_ctx? hctx e i) hrun
    have hrun_ctx := quiet.run_ctxAt (State.pick_ctx? hctx e i) a
    have hother (q : Nat) (hpq : p ≠ q) : (a.run u).ctxAt q = s.ctxAt q := by simp [hrun_ctx, hpq]
    have hat : (a.run u).ctxAt p = a.context u (f (c.decoded i)) := by simp [hrun_ctx]
    have hnext (c' : Ctx) (hc' : (a.run u).ctxAt p = some c') : c'.cmd = some i ∧ 0 < c'.pos := by
      obtain ⟨-, hcmd, -, hpos⟩ := Closing.context_some (hat ▸ hc')
      exact ⟨hcmd.trans (quiet.cmd _), by omega⟩
    cases hs : i.isStep with
    | false =>
      refine h.congr_at p hother (iff_of_false ?_ ?_) ?_
      · rintro ⟨c', dir, count, hc', hcmd, -⟩
        obtain rfl := Option.some.inj ((hnext c' hc').1.symm.trans hcmd)
        exact absurd hs Bool.noConfusion
      · refine State.not_inLoop_of_cmd hctx fun j hj => ?_
        obtain rfl : i = j := hi.eq_of_cmd hj
        exact hs
      · rw [Closing.run_seqState, quiet.writes.seqState hs, State.pick_seqState]
    | true =>
      refine h.step_segment (c := c.decoded i) (continues := a.continues) (hi.inLoop_iff hs hsound hctx) ?_ hother ?_
      · obtain ⟨dir, count, rfl⟩ := Instr.eq_step_of_isStep hs
        rw [← a.context_isSome u (f (c.decoded (.step dir count))), ← hat, Option.isSome_iff_exists]
        exact ⟨fun ⟨c', _, _, hc', _⟩ => ⟨c', hc'⟩, fun ⟨c', hc'⟩ => ⟨c', dir, count, hc', hnext c' hc'⟩⟩
      · rw [Closing.run_seqState]
        exact closes.loop hs

/-- Settles O55: no loop after reset, and each step enters, keeps or leaves the one there is. -/
theorem stepLoopsAreExclusive : Obligations.StepLoopsAreExclusive :=
  ⟨.reset, fun _ _ hinv h hstep => h.step hinv hstep⟩

/-! ### Reset, offers, and what a host sees -/

/-- Settles O53: a block after reset has free ports, an empty trace and `refused` as configured. -/
theorem invariantHoldsAtReset : Obligations.InvariantHoldsAtReset := by
  have hall (p : Params) (clock : Rat) (h : 0 ≤ clock) :
      (State.resetWith p clock).Inv ∧ (State.resetWith p clock).ModeInv := by
    have hports (q : Port) (hq : q ∈ (State.resetWith p clock).ports) : q = Port.reset := (List.mem_replicate.1 hq).2
    refine ⟨⟨List.length_replicate, rfl, h, fun q hq => hports q hq ▸ Port.sound_free p none, nofun⟩, ⟨?_, ?_⟩⟩
    · intro es q dev v a rest heq
      simp [State.resetWith] at heq
    · intro q c hc
      rw [State.ctxAt_of_idle (fun x hx => by rw [hports x hx]; exact ⟨rfl, rfl⟩) q] at hc
      simp at hc
  exact ⟨hall, hall exampleParams 0 le_rfl⟩

/-- Settles O8: `accepts` is R70's condition, and a port that takes a word has a context. -/
theorem offersAreAcceptedWhenIdle : Obligations.OffersAreAcceptedWhenIdle := by
  intro s p w rest hturns
  have hdrop : s.dropTurn = { s with env := { s.env with turns := rest } } := by
    simp [State.dropTurn, State.setEnv, hturns]
  have hstep : step s = .next (s.dropTurn.offer p w) := by simp [step_eq, State.fetch, hturns, Fetched.outcome]
  have hiff := s.dropTurn.accepts_iff p
  rw [State.offer_eq] at hstep
  refine ⟨fun hacc => ⟨_, hstep.trans (by rw [if_pos (hiff.2 hacc)]), by rw [hdrop]; rfl, ?_⟩, fun hnot => ?_⟩
  · obtain ⟨⟨q, hq, -⟩, -⟩ := hacc
    rw [State.enabled, State.ctxAt_take (s := s.dropTurn) hq, if_pos rfl]
    rfl
  · rw [hstep, if_neg (fun h => hnot (hiff.1 h)), hdrop]

/-- A readable response is the posted one of an idle port (R32). -/
theorem State.readResponse_eq_some_iff {s : State} {p : Nat} {r : Response} :
    s.readResponse p = some r ↔ ∃ q, s.ports[p]? = some q ∧ q.busy = false ∧ q.resp = some r := by
  simp [State.readResponse, Option.bind_eq_some_iff]

theorem State.readResponse_congr {s t : State} {p : Nat} (h : t.ports[p]? = s.ports[p]?) :
    t.readResponse p = s.readResponse p := by
  simp only [State.readResponse, h]

/-- A response stays readable over a step that offers no word on its port. -/
theorem State.readResponse_step {s t : State} {p : Nat} {r : Response} (hinv : s.Inv)
    (h : s.readResponse p = some r) (hturns : ∀ w rest, s.env.turns ≠ .offer p w :: rest)
    (hstep : step s = .next t) : t.readResponse p = some r := by
  obtain ⟨q, hq, hidle, -⟩ := State.readResponse_eq_some_iff.1 h
  have hnone := hinv.ctxAt_of_idle hq hidle
  have hne {n : Nat} {c : Ctx} (hc : s.ctxAt n = some c) : p ≠ n := by
    rintro rfl
    simp [hnone] at hc
  suffices hport : t.ports[p]? = s.ports[p]? from (State.readResponse_congr hport).trans h
  cases step_cases hstep with
  | pass e => rfl
  | @accept n w rest hturn hacc =>
    have hn : n ≠ p := by
      rintro rfl
      exact hturns w rest hturn
    exact List.getElem?_modify_ne _ _ hn
  | illegal e hctx hcmd => exact List.getElem?_modify_ne _ _ (hne hctx).symm
  | segment e hctx hi hrun =>
    exact ((exec_frame hrun).other p (hne hctx)).trans (List.getElem?_modify_ne _ _ (hne hctx).symm)

/-- Settles O58: the view field by field, the three cases of a read, and `readResponse_step`. -/
theorem statusPortAndResponses : Obligations.StatusPortAndResponses := by
  refine ⟨fun s => ⟨rfl, rfl, rfl, rfl, rfl, rfl, fun p => ?_, rfl, rfl⟩, fun s p q hq => ?_,
    fun s status data hcur => ?_, fun s t p r => State.readResponse_step, rfl, rfl, rfl, rfl, rfl, rfl, rfl⟩
  · exact List.getElem?_map
  · exact ⟨fun hb => by simp [State.readResponse, hq, hb], fun hb => by simp [State.readResponse, hq, hb]⟩
  · exact State.readResponse_eq_some_iff.2 ⟨⟨false, none, some ⟨status, data⟩⟩, by simp [hcur], rfl, rfl⟩

/-! ### A command run alone: the states between its segments -/

/-- s while the command on port `cur` runs: its context is c, and it has drawn from the environment, read the clock and
added events. -/
def State.during (s : State) (c : Ctx) (e : Env) (t : Rat) (es : List Event) : State :=
  { s with
    env := e
    lastClock := t
    trace := s.trace ++ es
    ports := s.ports.modify s.cur fun q => { q with ctx := some c } }

section

variable {s : State} {c : Ctx} {e : Env} {t : Rat} {es : List Event}

@[simp] theorem State.during_cur : (s.during c e t es).cur = s.cur := rfl
@[simp] theorem State.during_params : (s.during c e t es).params = s.params := rfl
@[simp] theorem State.during_lastClock : (s.during c e t es).lastClock = t := rfl
@[simp] theorem State.during_env : (s.during c e t es).env = e := rfl

/-- A command in flight is in such a state from the start. -/
theorem State.eq_during (h : s.ctx? = some c) : s = s.during c s.env s.lastClock [] := by
  have hid : s.modCtx id = s := congrArg (fun ps => { s with ports := ps }) (Quiet.modify_ctx_id _ _)
  calc s = s.modCtx id := hid.symm
    _ = _ := State.modCtx_of_ctx h id
    _ = s.during c s.env s.lastClock [] := by simp [State.during]

theorem State.cur_lt_of_ctx? (h : s.ctx? = some c) : s.cur < s.ports.length := by
  obtain ⟨q, hq, -⟩ := State.port_of_ctxAt h
  exact (List.getElem?_eq_some_iff.1 hq).1

theorem State.during_ctx? (h : s.cur < s.ports.length) : (s.during c e t es).ctx? = some c := by
  simp [State.ctx?, State.ctxAt, State.during, h]

theorem State.during_enabled (h : s.cur < s.ports.length) : (s.during c e t es).enabled s.cur = true := by
  simp [State.enabled, State.ctxAt, State.during, h]

theorem State.during_modCtx (f : Ctx → Ctx) : (s.during c e t es).modCtx f = s.during (f c) e t es := by
  simp only [State.during, State.modCtx, State.modPortAt, State.setPorts, List.modify_modify_eq]
  rfl

theorem State.during_busWrite (r v : Byte) : (s.during c e t es).busWrite r v =
    s.during (c.tookAck e.nextAck) e.dropAck t (es ++ [.write s.cur s.params.dev r v e.nextAck]) := by
  rw [← State.during_modCtx, State.busWrite]
  simp [State.during, State.emit, State.setTrace, State.setEnv]

/-- The same from the start of the command's run. -/
theorem State.busWrite_eq_during (h : s.ctx? = some c) (r v : Byte) : s.busWrite r v =
    s.during (c.tookAck s.env.nextAck) s.env.dropAck s.lastClock [.write s.cur s.params.dev r v s.env.nextAck] := by
  conv_lhs => rw [State.eq_during h]
  exact State.during_busWrite r v

theorem State.during_busRead (r : Byte) : (s.during c e t es).busRead r =
    s.during (c.tookRead e.nextRead) e.dropRead t (es ++ [.read s.cur s.params.dev r e.nextRead]) := by
  rw [← State.during_modCtx, State.busRead]
  simp [State.during, State.emit, State.setTrace, State.setEnv]

/-- A clock reading gives the queued draw where the draw meets its bounds (R219, R220). -/
theorem State.during_readClockFrom {b u : Rat} {us : List Rat} (hc : e.clocks = u :: us) (hb : b ≤ u) (ht : t ≤ u)
    (h0 : 0 ≤ u) : (s.during c e t es).readClockFrom b =
      s.during c { e with clocks := us } u (es ++ [.clock s.cur u]) := by
  have hv : (s.during c e t es).clockValue b = u :=
    State.clockValue_of_draw (by simp [Env.nextClock, hc]) hb ht h0
  rw [State.readClockFrom, hv]
  simp [State.during, State.emit, State.setTrace, State.setEnv, State.setLastClock, Env.dropClock, hc]

theorem State.during_waitUntil (d : Rat) : (s.during c e t es).waitUntil d =
    s.during (c.waiting d) e t (es ++ [.wait s.cur d]) := by
  rw [← State.during_modCtx, State.waitUntil]
  simp [State.during, State.emit, State.setTrace]

theorem State.during_waitFor {d u : Rat} {us : List Rat} (hc : e.clocks = u :: us) (ht : t ≤ u) (h0 : 0 ≤ u) :
    (s.during c e t es).waitFor d =
      s.during (c.waiting (u + d)) { e with clocks := us } u (es ++ [.clock s.cur u, .wait s.cur (u + d)]) := by
  rw [State.waitFor, State.readClock, State.during_readClockFrom hc h0 ht h0, State.during_waitUntil]
  simp

theorem State.during_resume {d u : Rat} {us : List Rat} (hd : c.deadline = some d) (hc : e.clocks = u :: us)
    (hb : d ≤ u) (ht : t ≤ u) (h0 : 0 ≤ u) : (s.during c e t es).resume c =
      s.during c.resumed { e with clocks := us } u (es ++ [.clock s.cur u]) := by
  rw [State.resume, hd, Option.getD_some, State.during_readClockFrom hc hb ht h0, State.during_modCtx]

theorem State.during_respond (status : Status) (data : RespData) : (s.during c e t es).respond status data =
    { s with
      env := e
      lastClock := t
      trace := s.trace ++ (es ++ [.respond s.cur ⟨status, data⟩])
      ports := s.ports.modify s.cur fun _ => ⟨false, none, some ⟨status, data⟩⟩ } := by
  simp only [State.during, State.respond, State.emit, State.setTrace, State.modPortAt, State.setPorts,
    List.modify_modify_eq, List.append_assoc]
  rfl

end

/-- One more segment of a run. -/
theorem runSegments_succ {i : Instr} {k : Nat} {s u v : State} (h : runSegments i k s = .next u)
    (hv : exec i u = .next v) : runSegments i (k + 1) s = .next v := by
  induction k generalizing s with
  | zero =>
    obtain rfl : s = u := by simpa [runSegments] using h
    simp [runSegments, hv]
  | succ k ih =>
    rw [runSegments] at h ⊢
    cases hs : exec i s with
    | next w =>
      rw [hs] at h
      exact ih h
    | fault r => simp [hs] at h
    | refused r => simp [hs] at h

/-- A queued answer is the one drawn, and leaves the queue (log 3). -/
theorem Env.ack_cons {e : Env} {a : Ack} {as : List Ack} (h : e.acks = a :: as) :
    e.nextAck = a ∧ e.dropAck = { e with acks := as } := by
  simp [Env.nextAck, Env.dropAck, h]

theorem Env.read_cons {e : Env} {a : ReadAnswer} {as : List ReadAnswer} (h : e.reads = a :: as) :
    e.nextRead = a ∧ e.dropRead = { e with reads := as } := by
  simp [Env.nextRead, Env.dropRead, h]

/-! ### INIT's handshake -/

section

variable {c : Ctx} {u : State}

theorem initSegment_write (h0 : 0 < c.pos) (h6 : c.pos < initWrites.length) (ha : c.answer ≠ .err) :
    initSegment c u = u.busWrite initWrites[c.pos].reg initWrites[c.pos].val := by
  have h6' : c.pos < 6 := h6
  unfold initSegment
  split
  iterate 6 next => omega
  next => rw [answered_ok ha, issue_lt h6]

theorem initSegment_wait (hpos : c.pos = 6 ∨ c.pos = 9) (ha : c.answer ≠ .err) :
    initSegment c u = u.waitFor 5 := by
  obtain h | h := hpos <;> simp [initSegment, h, answered_ok ha, waitMs]

theorem initSegment_readMode1 (hpos : c.pos = 7) : initSegment c u = (u.resume c).busRead regMode1 := by
  simp [initSegment, hpos]

theorem initSegment_wake {m : Byte} (hpos : c.pos = 8) (ha : c.answer = .okByte m) :
    initSegment c u = (u.modCtx (Ctx.keepM m)).busWrite regMode1 (wakeByte m) := by
  simp [initSegment, hpos, answered, ha, Answer.byte]

theorem initSegment_readPrescale (hpos : c.pos = 10) : initSegment c u = (u.resume c).busRead regPrescale := by
  simp [initSegment, hpos]

theorem initSegment_last {p : Byte} (hpos : c.pos = 11) (ha : c.answer = .okByte p) :
    initSegment c u = ((u.modCtx (Ctx.keepP8 p)).markReady).respond .ok (.prescaleFreq p (freqOf p)) := by
  have hdone : initWrites.length ≤ 11 := by decide
  simp [initSegment, hpos, answered, ha, Answer.byte, issue_ge hdone]

end

/-- INIT has run k segments from s, alone: `ready` is 0, and its context at position k is as P says. -/
def InitReached (s : State) (k : Nat) (P : Ctx → Prop) (e : Env) (t : Rat) (es : List Event) : Prop :=
  ∃ c, c.pos = k ∧ P c ∧ runSegments .init k s = .next (s.clearReady.during c e t es)

section

variable {s : State} {k : Nat} {P P' : Ctx → Prop} {e e' : Env} {t t' : Rat} {es es' : List Event}

/-- One more segment. -/
theorem InitReached.next (h : InitReached s k P e t es) (hcur : s.cur < s.ports.length)
    (hnext : ∀ c, c.pos = k → P c → ∃ c', c'.pos = k + 1 ∧ P' c' ∧
      initSegment c (s.clearReady.during c e t es) = s.clearReady.during c' e' t' es') :
    InitReached s (k + 1) P' e' t' es' := by
  obtain ⟨c, hpos, hP, hrun⟩ := h
  obtain ⟨c', hpos', hP', hseg⟩ := hnext c hpos hP
  refine ⟨c', hpos', hP', runSegments_succ hrun ?_⟩
  rw [← hseg]
  exact onCtx_of_ctx (State.during_ctx? (s := s.clearReady) hcur) _

/-- Between its segments INIT is in flight and the driver is not ready (R22). -/
theorem InitReached.not_ready (h : InitReached s k P e t es) (hcur : s.cur < s.ports.length) :
    ∃ u, runSegments .init k s = .next u ∧ u.ready = false ∧ u.enabled s.cur = true := by
  obtain ⟨c, -, -, hrun⟩ := h
  exact ⟨_, hrun, rfl, State.during_enabled (s := s.clearReady) hcur⟩

/-- A wait of 5 ms (R120 steps 4 and 6). -/
theorem InitReached.wait {u : Rat} {us : List Rat} (h : InitReached s k (fun c => c.answer = .ok) e t es)
    (hcur : s.cur < s.ports.length) (hk : k = 6 ∨ k = 9) (hc : e.clocks = u :: us) (ht : t ≤ u) (h0 : 0 ≤ u) :
    InitReached s (k + 1) (fun c => c.deadline = some (u + 5)) { e with clocks := us } u
      (es ++ [.clock s.cur u, .wait s.cur (u + 5)]) := by
  refine h.next hcur fun c hpos ha => ⟨c.waiting (u + 5), by simp [hpos], rfl, ?_⟩
  rw [initSegment_wait (by rwa [hpos]) (by simp [ha])]
  exact State.during_waitFor hc ht h0

/-- A read after a wait (R120 steps 5 and 7). -/
theorem InitReached.read {r b : Byte} {d u : Rat} {us : List Rat} {reads : List ReadAnswer}
    (h : InitReached s k (fun c => c.deadline = some d) e t es) (hcur : s.cur < s.ports.length)
    (hk : k = 7 ∧ r = regMode1 ∨ k = 10 ∧ r = regPrescale) (hc : e.clocks = u :: us) (hr : e.reads = .ok b :: reads)
    (hd : d ≤ u) (ht : t ≤ u) (h0 : 0 ≤ u) :
    InitReached s (k + 1) (fun c => c.answer = .okByte b) { e with clocks := us, reads := reads } u
      (es ++ [.clock s.cur u, .read s.cur s.params.dev r (.ok b)]) := by
  refine h.next hcur fun c hpos hdl => ⟨c.resumed.tookRead (.ok b), by simp [hpos], rfl, ?_⟩
  have hseg : initSegment c (s.clearReady.during c e t es) =
      ((s.clearReady.during c e t es).resume c).busRead r := by
    obtain ⟨hk, rfl⟩ | ⟨hk, rfl⟩ := hk
    · exact initSegment_readMode1 (hpos.trans hk)
    · exact initSegment_readPrescale (hpos.trans hk)
  obtain ⟨hnext, hdrop⟩ := Env.read_cons (e := { e with clocks := us }) hr
  rw [hseg, State.during_resume hdl hc hd ht h0, State.during_busRead, hnext, hdrop]
  simp

end

section

variable {s : State} {c : Ctx} {acks : List Ack}

/-- INIT's first write (R120 step 1). -/
theorem initReached_one (hctx : s.ctx? = some c) (hpos : c.pos = 0) (hacks : s.env.acks = .ok :: acks) :
    InitReached s 1 (fun c => c.answer = .ok) { s.env with acks := acks } s.lastClock
      (writeEvents s.cur s.params.dev (initWrites.take 1)) := by
  obtain ⟨hnext, hdrop⟩ := Env.ack_cons hacks
  have hexec : exec .init s = .next (s.clearReady.busWrite allBase (loByte 0)) := by
    simp only [exec, execInit, onCtx_of_ctx hctx, initSegment, hpos]
    rfl
  have hwrite := State.busWrite_eq_during (s := s.clearReady) (c := c) hctx allBase (loByte 0)
  rw [show s.clearReady.env = s.env from rfl, hnext, hdrop] at hwrite
  exact ⟨c.tookAck .ok, by simp [hpos], rfl, runSegments_succ (u := s) rfl (hwrite ▸ hexec)⟩

/-- The events of the first k + 1 writes. -/
theorem writeEvents_take_succ (p : Nat) (dev : DevAddr) {ws : List RegWrite} {k : Nat} (h : k < ws.length) :
    writeEvents p dev (ws.take (k + 1)) =
      writeEvents p dev (ws.take k) ++ [.write p dev ws[k].reg ws[k].val .ok] := by
  rw [← List.take_append_getElem h, writeEvents, List.map_append]
  rfl

/-- INIT's writes of steps 1 to 3. -/
theorem initReached_writes (hctx : s.ctx? = some c) (hpos : c.pos = 0) {k : Nat} (h1 : 1 ≤ k) (h6 : k ≤ 6)
    (hacks : s.env.acks = List.replicate k .ok ++ acks) :
    InitReached s k (fun c => c.answer = .ok) { s.env with acks := acks } s.lastClock
      (writeEvents s.cur s.params.dev (initWrites.take k)) := by
  have hcur : s.cur < s.ports.length := State.cur_lt_of_ctx? hctx
  induction k, h1 using Nat.le_induction generalizing acks with
  | base => exact initReached_one hctx hpos hacks
  | succ k h1 ih =>
    have hk : k < initWrites.length := h6
    refine (ih (acks := .ok :: acks) (by omega) (by simp [hacks, List.replicate_succ'])).next hcur fun c' hpos' ha => ?_
    refine ⟨c'.tookAck .ok, by simp [hpos'], rfl, ?_⟩
    subst hpos'
    rw [initSegment_write h1 hk (by simp [ha]), State.during_busWrite, writeEvents_take_succ _ _ hk]
    rfl

/-- Settles O44: the states of `InitReached` after each segment, and the response of the last. -/
theorem initRunsTheHandshake : Obligations.InitRunsTheHandshake := by
  intro s c m p t1 t2 t3 t4 acks reads clocks hctx hpos hacks hreads hclocks h0 h1 h2 h3 h4
  have hcur : s.cur < s.ports.length := State.cur_lt_of_ctx? hctx
  have hwrites {k : Nat} (hk1 : 1 ≤ k) (hk6 : k ≤ 6) :=
    initReached_writes (acks := List.replicate (7 - k) .ok ++ acks) hctx hpos hk1 hk6 (by
      rw [hacks, ← List.append_assoc, List.replicate_append_replicate, Nat.add_sub_cancel' (by omega)])
  have r7 := (hwrites (by decide) le_rfl).wait hcur (.inl rfl) hclocks h1 (by linarith)
  have r8 := r7.read hcur (.inl ⟨rfl, rfl⟩) rfl hreads h2 (by linarith) (by linarith)
  have r9 : InitReached s 9 (fun c => c.answer = .ok) _ _ _ := r8.next hcur fun c hpos ha =>
    ⟨(c.keepM m).tookAck .ok, by simp [hpos], rfl, by
      rw [initSegment_wake hpos ha, State.during_modCtx, State.during_busWrite]
      rfl⟩
  have r10 := r9.wait hcur (.inr rfl) rfl h3 (by linarith)
  have r11 := r10.read hcur (.inr ⟨rfl, rfl⟩) rfl rfl h4 (by linarith) (by linarith)
  refine ⟨fun k hk1 hk12 => ?_, ?_⟩
  · rcases Nat.lt_or_ge 6 k with hk | hk
    · interval_cases k
      · exact r7.not_ready hcur
      · exact r8.not_ready hcur
      · exact r9.not_ready hcur
      · exact r10.not_ready hcur
      · exact r11.not_ready hcur
    · exact (hwrites hk1 hk).not_ready hcur
  · obtain ⟨c', hpos', ha, hrun⟩ := r11
    refine runSegments_succ hrun ?_
    refine (onCtx_of_ctx (State.during_ctx? (s := s.clearReady) hcur) _).trans ?_
    rw [initSegment_last hpos' ha, State.during_modCtx]
    exact congrArg Host.Outcome.next (State.during_respond (s := s.markReady) _ _)

end

end Sys2Proof.Machine

/-! PROOFS. The statements of 20_memory.md: what a step makes of a pick (R70 to R72), that every state has a next one
(R71, R241), what a step adds to the trace (R65, R73), how a command ends (R98, R206), and program P5 of
95_test_vectors.md (R61, R251). -/

namespace Sys2Proof.Machine

/-! ### How a command ends (R98, R206) -/

/-- Adding a reason adds that reason and no other (R35). -/
theorem FaultSet.has_add_eq (f : FaultSet) (reason r : FaultReason) :
    (f.add reason).has r = (f.has r || r == reason) := by
  cases reason <;> cases r <;> simp [FaultSet.add, FaultSet.has]

/-- Settles O15: both ends are one event and an update of the running port, and a fault is a mark besides. -/
theorem commandEndsAreExact : Obligations.CommandEndsAreExact :=
  fun s => ⟨fun _ _ => rfl, fun reason => ⟨rfl, s.faulted.has_add_eq reason⟩⟩

/-! ### The scheduler's pick of a port (R72) -/

/-- A context holds a command, or its word is illegal and undecoded (R92, R93). -/
theorem Ctx.holds_or_illegal (c : Ctx) :
    (∃ i, c.holds i) ∨ c.cmd = none ∧ ∃ why, decode c.word = .illegal why := by
  cases hcmd : c.cmd with
  | some i => exact .inl ⟨i, .inl hcmd⟩
  | none =>
    cases hdec : decode c.word with
    | legal i => exact .inl ⟨i, .inr ⟨hcmd, hdec⟩⟩
    | illegal why => exact .inr ⟨rfl, why, rfl⟩

/-- A picked port with command i in flight runs the next segment of i (R71, R94). -/
theorem State.fetchOn_of_holds {s : State} {p : Nat} {c : Ctx} {i : Instr} (h : s.ctxAt p = some c)
    (hi : c.holds i) : s.fetchOn p = .run i (s.pick s.env p i) := by
  obtain hcmd | ⟨hcmd, hdec⟩ := hi
  · have hpick : s.pick s.env p i = s.setCur p := State.modCtx_decoded_of_cmd (s := s.setCur p) h hcmd
    simp [State.fetchOn, h, hcmd, hpick]
  · simp only [State.fetchOn, h, hcmd, hdec]
    rfl

/-- A picked port with an illegal word in flight ends with ILLEGAL_COMMAND (R201). -/
theorem State.fetchOn_of_illegal {s : State} {p : Nat} {c : Ctx} {why : DecodeError} (h : s.ctxAt p = some c)
    (hcmd : c.cmd = none) (hdec : decode c.word = .illegal why) :
    s.fetchOn p = .done ((s.setCur p).raise .illegalCommand) := by
  simp [State.fetchOn, h, hcmd, hdec]

/-- With a turn of port p queued, a step is that port's pick. -/
theorem step_of_run_turn {s : State} {p : Nat} {rest : List Turn} (h : s.env.turns = .run p :: rest) :
    step s = (State.fetchOn p (s.setEnv { s.env with turns := rest })).outcome := by
  simp [step_eq, State.fetch, State.dropTurn, h]

/-- With a turn of port p queued and command i in flight there, a step is the next segment of i on p (R71, R72). -/
theorem step_of_run_turn_of_holds {s : State} {p : Nat} {rest : List Turn} {c : Ctx} {i : Instr}
    (hturns : s.env.turns = .run p :: rest) (hctx : s.ctxAt p = some c) (hi : c.holds i) :
    step s = exec i (s.pick { s.env with turns := rest } p i) := by
  have hdrop : (s.setEnv { s.env with turns := rest }).ctxAt p = some c := hctx
  rw [step_of_run_turn hturns, State.fetchOn_of_holds hdrop hi]
  rfl

/-- The pick of a port, field by field (R31, R72). -/
theorem State.pick_eq (e : Env) (p : Nat) (i : Instr) (s : State) : s.pick e p i = { s with
    cur := p
    env := e
    ports := s.ports.modify p fun q => { q with ctx := q.ctx.map fun c => { c with cmd := some i } } } := rfl

/-! ### A loaded word (log 16) -/

theorem State.withFetchWord_turns (s : State) (nbits w : Nat) :
    (s.withFetchWord nbits w).env.turns = .run 0 :: s.env.turns := rfl

/-- A loaded word is in flight on port 0, at segment 1. -/
theorem State.withFetchWord_ctxAt {s : State} (h : s.ports ≠ []) (nbits w : Nat) :
    (s.withFetchWord nbits w).ctxAt 0 = some (Ctx.fresh (tableWord nbits w)) := by
  have hport : s.ports[0]? = some (s.ports[0]'(List.length_pos_iff.2 h)) := List.getElem?_eq_getElem _
  rw [State.withFetchWord, State.loadCommand, State.ctxAt_setEnv, State.ctxAt_modPortAt, if_pos rfl, hport]
  rfl

/-- The pick of a loaded word's command, with the turn that loading queued taken back. -/
theorem State.withFetchWord_pick (s : State) (nbits w : Nat) (i : Instr) :
    (s.withFetchWord nbits w).pick { (s.withFetchWord nbits w).env with turns := s.env.turns } 0 i = { s with
      cur := 0
      ports := s.ports.modify 0 fun q =>
        { q with busy := true, ctx := some { Ctx.fresh (tableWord nbits w) with cmd := some i } } } := by
  simp only [State.pick, State.withFetchWord, State.loadCommand, State.modCtx, State.modPortAt, State.setPorts,
    State.setEnv, State.setCur, List.modify_modify_eq]
  rfl

theorem decodeTableWord_eq_some_iff {nbits w : Nat} {i : Instr} :
    decodeTableWord nbits w = some i ↔ decode (tableWord nbits w) = .legal i := by
  unfold decodeTableWord
  cases decode (tableWord nbits w) <;> simp [Decoded.instr?]

/-- Settles O6: `step_of_run_turn_of_holds`, for a queued turn and for the one that loading a word queues. -/
theorem stepRunsTheDecodedSegment : Obligations.StepRunsTheDecodedSegment := by
  refine ⟨fun s p rest c i hturns hctx hi => ?picked, fun s nbits w i hports hdec => ?loaded⟩
  case picked => rw [step_of_run_turn_of_holds hturns hctx hi, State.pick_eq]
  case loaded =>
    have hi : (Ctx.fresh (tableWord nbits w)).holds i := .inr ⟨rfl, decodeTableWord_eq_some_iff.1 hdec⟩
    rw [step_of_run_turn_of_holds (s.withFetchWord_turns nbits w) (State.withFetchWord_ctxAt hports nbits w) hi,
      State.withFetchWord_pick]

/-! ### Every state has a next state (R71, R200) -/

/-- A command in flight on port `cur` has a next segment to run (R71). -/
theorem exec_next_of_ctx {s : State} {c : Ctx} (i : Instr) (h : s.ctx? = some c) : ∃ t, exec i s = .next t := by
  cases i <;> exact ⟨_, onCtx_of_ctx h _⟩

/-- A pick of any port gives a next state: none in flight, a command's segment, or the end of an illegal word. -/
theorem State.fetchOn_outcome_next (s : State) (p : Nat) : ∃ t, (s.fetchOn p).outcome = .next t := by
  cases hctx : s.ctxAt p with
  | none => exact ⟨s, by rw [State.fetchOn_of_ctxAt_none hctx]; rfl⟩
  | some c =>
    obtain ⟨i, hi⟩ | ⟨hcmd, why, hdec⟩ := c.holds_or_illegal
    · rw [State.fetchOn_of_holds hctx hi]
      exact exec_next_of_ctx i (State.pick_ctx? hctx s.env i)
    · exact ⟨_, by rw [State.fetchOn_of_illegal hctx hcmd hdec]; rfl⟩

/-! ### No turn queued (R72, R241; log 3, log 5) -/

theorem State.mem_enabledPorts {s : State} {p : Nat} : p ∈ s.enabledPorts ↔ s.enabled p = true := by
  simp only [State.enabledPorts, List.mem_filter, List.mem_range, and_iff_right_iff_imp]
  intro h
  obtain ⟨c, hc⟩ := Option.isSome_iff_exists.1 h
  obtain ⟨q, hq, -⟩ := State.port_of_ctxAt hc
  exact (List.getElem?_eq_some_iff.1 hq).1

/-- Where some port is enabled, the free schedule picks an enabled one. -/
theorem State.fetchFree_of_enabled {s : State} (h : ∃ p, s.enabled p = true) :
    ∃ p, s.enabled p = true ∧ s.fetchFree = State.fetchOn p (s.setEnv { s.env with drawn := s.env.drawn + 1 }) := by
  obtain ⟨p, hp⟩ := h
  have hlen : 0 < s.enabledPorts.length := List.length_pos_of_mem (State.mem_enabledPorts.2 hp)
  have hpick := List.getElem?_eq_getElem (Nat.mod_lt (Config.turnDraw s.env.drawn) hlen)
  exact ⟨_, State.mem_enabledPorts.1 (List.mem_of_getElem? hpick), by simp only [State.fetchFree, hpick]⟩

theorem step_of_no_turn {s : State} (h : s.env.turns = []) : step s = s.fetchFree.outcome := by
  simp [step_eq, State.fetch, h]

/-- Settles O10: the free schedule's fallback, and its pick read as a queued turn. -/
theorem freeScheduleRunsSomeEnabledPort : Obligations.FreeScheduleRunsSomeEnabledPort := by
  intro s hturns
  rw [step_of_no_turn hturns]
  refine ⟨fun hnone => ?idle, fun hsome => ?picks⟩
  case idle =>
    have hctx (p : Nat) : s.ctxAt p = none := by simpa [State.enabled] using hnone p
    rw [State.fetchFree_of_ctxAt_none hctx]
    rfl
  case picks =>
    obtain ⟨p, hp, hfetch⟩ := State.fetchFree_of_enabled hsome
    refine ⟨p, hp, ?_⟩
    rw [hfetch, step_of_run_turn rfl, ← hturns]
    rfl

/-- Settles O9: an offer is an acceptance or is passed over, and any pick of a port answers. -/
theorem stepAlwaysAnswersNext : Obligations.StepAlwaysAnswersNext := by
  intro s
  cases hturns : s.env.turns with
  | nil =>
    by_cases hsome : ∃ p, s.enabled p = true
    · obtain ⟨p, -, hfetch⟩ := State.fetchFree_of_enabled hsome
      rw [step_of_no_turn hturns, hfetch]
      exact State.fetchOn_outcome_next _ p
    · exact ⟨s, (freeScheduleRunsSomeEnabledPort s hturns).1 (by simpa using hsome)⟩
  | cons turn rest =>
    cases turn with
    | offer p w => exact ⟨s.dropTurn.offer p w, by simp [step_eq, State.fetch, hturns, Fetched.outcome]⟩
    | run p =>
      rw [step_of_run_turn hturns]
      exact State.fetchOn_outcome_next _ p

/-! ### What a step adds to the trace (R65, R73) -/

/-- The trace grew from tr to tr' at its end, by at most n transactions. -/
def BusAdded (n : Nat) (tr tr' : List Event) : Prop :=
  ∃ es, tr' = tr ++ es ∧ (es.filter Event.isBus).length ≤ n

theorem BusAdded.refl (n : Nat) (tr : List Event) : BusAdded n tr tr := ⟨[], by simp, by simp⟩

theorem BusAdded.append {n m : Nat} {tr tr' es : List Event} (h : BusAdded n tr tr')
    (he : (es.filter Event.isBus).length ≤ m) : BusAdded (n + m) tr (tr' ++ es) := by
  obtain ⟨es', rfl, hes'⟩ := h
  refine ⟨es' ++ es, List.append_assoc _ _ _, ?_⟩
  rw [List.filter_append, List.length_append]
  exact Nat.add_le_add hes' he

/-- One event is at most one transaction. -/
theorem BusAdded.one (tr : List Event) (e : Event) : BusAdded 1 tr (tr ++ [e]) :=
  ⟨[e], rfl, List.length_filter_le _ _⟩

/-- Clock readings are no transactions (R73). -/
theorem ClocksAdded.busAdded {p : Nat} {tr tr' : List Event} (h : ClocksAdded p tr tr') : BusAdded 0 tr tr' := by
  induction h with
  | none => exact .refl 0 tr
  | clock _ _ ih => exact ih.append (m := 0) (by simp [Event.isBus])

/-- A segment has one closing action, and nothing before it is a transaction (R65, R71). -/
theorem Segment.busAdded {i : Instr} {c : Ctx} {s t : State} (h : Segment i c s t) : BusAdded 1 s.trace t.trace := by
  obtain ⟨a, quiet, -⟩ := h
  rw [Closing.run_trace]
  exact quiet.trace.busAdded.append (List.length_filter_le _ [_])

/-- Settles O11: of the four kinds of step only a segment makes a transaction or reads the clock. -/
theorem stepMakesAtMostOneTransaction : Obligations.StepMakesAtMostOneTransaction := by
  intro s t hstep
  cases step_cases hstep with
  | pass e => exact ⟨le_rfl, BusAdded.refl 1 s.trace⟩
  | accept hturn hacc => exact ⟨le_rfl, BusAdded.one s.trace _⟩
  | illegal e hctx hcmd => exact ⟨le_rfl, BusAdded.one s.trace _⟩
  | segment e hctx hi hrun =>
    exact ⟨(exec_frame hrun).clock, (exec_segment (State.pick_ctx? hctx e _) hrun).busAdded⟩

/-! ### Program P5: two overlapping SETFREQs (95_test_vectors.md; R61, R251) -/

/-- Two runs, one after the other. -/
theorem run_trans {M : Host.Core} {m n : Nat} {s t u : M.State} (h : M.run m s = .next t) (h' : M.run n t = .next u) :
    M.run (m + n) s = .next u := by
  induction m generalizing s with
  | zero =>
    obtain rfl : s = t := by simpa [Host.Core.run] using h
    rwa [Nat.zero_add]
  | succ m ih =>
    rw [Nat.succ_add, Host.Core.run]
    rw [Host.Core.run] at h
    cases hs : M.step s with
    | next v =>
      rw [hs] at h
      exact ih h
    | fault r => simp [hs] at h
    | refused r => simp [hs] at h

/-- P5's turns: both words are accepted before either command runs. -/
def overlapTurns : List Turn :=
  [.offer 0 0x0500000640000001, .offer 1 0x0500000032000001,
    .run 0, .run 0, .run 1, .run 1, .run 0, .run 0, .run 1, .run 1, .run 0, .run 0, .run 1, .run 1, .run 0, .run 1]

/-- A ready block with idle ports, and P5's answers: MODE1 holds 0x01 when port 0 reads it, and port 0's sleep byte when
port 1 does; each wait ends at its deadline. -/
def overlapStart : State :=
  { State.resetWith exampleParams 0 with
    ready := true
    env := ⟨overlapTurns, List.replicate 8 .ok, [.ok 0x01, .ok 0x11], [0, 5, 5, 10], 0⟩ }

/-- The context of a SETFREQ that has read MODE1 and written its sleep byte. -/
def sleepingCtx (w : Word) (i : Instr) (old p8 : Byte) : Ctx :=
  { Ctx.fresh w with cmd := some i, pos := 2, wrote := true, answer := .ok, old := old, p8 := p8 }

/-- P5's acceptances and its transactions 1 to 4. -/
def overlapSleepTrace : List Event :=
  [.accept 0 0x0500000640000001, .accept 1 0x0500000032000001,
    .read 0 0x40 0x00 (.ok 0x01), .write 0 0x40 0x00 0x11 .ok,
    .read 1 0x40 0x00 (.ok 0x11), .write 1 0x40 0x00 0x11 .ok]

/-- The overlap: both commands have written their sleep byte, and port 1 keeps port 0's sleep byte as the MODE1 byte it
will restore (R61). -/
def overlapAsleep : State :=
  { overlapStart with
    cur := 1
    ports := [⟨true, some (sleepingCtx 0x0500000640000001 (.setfreq 1600 1) 0x01 3), none⟩,
      ⟨true, some (sleepingCtx 0x0500000032000001 (.setfreq 50 1) 0x11 121), none⟩]
    trace := overlapSleepTrace
    env := ⟨overlapTurns.drop 6, List.replicate 6 .ok, [], [0, 5, 5, 10], 0⟩ }

/-- P5's transactions 5 to 10, with the waits and the responses. -/
def overlapRestoreTrace : List Event :=
  [.write 0 0x40 0xFE 0x03 .ok, .write 0 0x40 0x00 0x01 .ok, .write 1 0x40 0xFE 0x79 .ok, .write 1 0x40 0x00 0x11 .ok,
    .clock 0 0, .wait 0 5, .clock 0 5, .write 0 0x40 0x00 0x81 .ok,
    .clock 1 5, .wait 1 10, .clock 1 10, .write 1 0x40 0x00 0x91 .ok,
    .respond 0 ⟨.ok, .prescale 3⟩, .respond 1 ⟨.ok, .prescale 121⟩]

/-- Both commands have answered. -/
def overlapEnd : State :=
  { overlapStart with
    cur := 1
    lastClock := 10
    ports := [Port.answeredWith ⟨.ok, .prescale 3⟩, Port.answeredWith ⟨.ok, .prescale 121⟩]
    trace := overlapSleepTrace ++ overlapRestoreTrace
    env := Env.reset }

/-- The state that an outcome hands on, if it is a next state: two such outcomes can be compared by evaluation. -/
def outcomeState? : Host.Outcome State Fault Refusal → Option State
  | .next s => some s
  | .fault _ => none
  | .refused _ => none

theorem outcomeState?_eq_some_iff {o : Host.Outcome State Fault Refusal} {s : State} :
    outcomeState? o = some s ↔ o = .next s := by
  cases o <;> simp [outcomeState?]

/-- Both acceptances, both reads of MODE1 and both sleep bytes. -/
theorem run_overlapStart : Host.Core.run Sys2Proof.core 6 overlapStart = .next overlapAsleep :=
  outcomeState?_eq_some_iff.1 (by decide +kernel)

/-- Both prescales and restored bytes, then the waits, the restart bytes and the responses. -/
theorem run_overlapAsleep : Host.Core.run Sys2Proof.core 10 overlapAsleep = .next overlapEnd :=
  outcomeState?_eq_some_iff.1 (by decide +kernel)

/-- Settles O57: the run through the state of the overlap, in which port 1 holds the stale byte. -/
theorem overlappingSetfreqRestoresAStaleByte : Obligations.OverlappingSetfreqRestoresAStaleByte := by
  refine ⟨overlapStart, overlapEnd, rfl, ?notRefused, rfl, rfl, rfl, rfl, ?runs, rfl, ?transactions, ?device, rfl,
    ?bytes⟩
  case notRefused => decide +kernel
  case runs => exact run_trans run_overlapStart run_overlapAsleep
  case transactions => rfl
  case device => decide
  case bytes => decide

end Sys2Proof.Machine

/-! PROOFS. The statements of 30_encoding.md: the decoder said once (R94), the words of each format (R83 to R89), decode
and encode (R91), the opcode table (R90), the illegal words (R92), the assembler's pseudo-instructions (R96), and the
responses of a STEP iteration's end and of a transport failure (R98, R100). -/

namespace Sys2Proof

/-! ### The decoder, said once -/

/-- The opcodes of R90. -/
def opcodes : List (BitVec 8) :=
  [0x01#8, 0x02#8, 0x03#8, 0x04#8, 0x05#8, 0x06#8, 0x07#8, 0x10#8, 0x11#8, 0x12#8, 0x13#8, 0x14#8]

/-- What the word w decodes to: its opcode's format, or nothing (R90, R94). -/
inductive Decodes (w : Word) : Decoded → Prop
  | init (opc : opcode w = 0x01#8) : Decodes w (formatN w .init)
  | wrch (opc : opcode w = 0x02#8) : Decodes w (formatC w)
  | wrall (opc : opcode w = 0x03#8) : Decodes w (formatA w)
  | setpin (opc : opcode w = 0x04#8) : Decodes w (formatP w)
  | setfreq (opc : opcode w = 0x05#8) : Decodes w (formatQ w .setfreq)
  | getfreq (opc : opcode w = 0x06#8) : Decodes w (formatN w .getfreq)
  | swreset (opc : opcode w = 0x07#8) : Decodes w (formatN w .swreset)
  | setstr (opc : opcode w = 0x10#8) : Decodes w (formatQ w .setstr)
  | coils (opc : opcode w = 0x11#8) : Decodes w (formatK w)
  | idle (opc : opcode w = 0x12#8) : Decodes w (formatN w .idle)
  | step (opc : opcode w = 0x13#8) : Decodes w (formatS w)
  | stop (opc : opcode w = 0x14#8) : Decodes w (formatN w .stop)
  | unknown (opc : opcode w ∉ opcodes) : Decodes w (.illegal .unknownOpcode)

theorem decodes_decode (w : Word) : Decodes w (decode w) := by
  unfold decode
  split
  next h => exact .init h
  next h => exact .wrch h
  next h => exact .wrall h
  next h => exact .setpin h
  next h => exact .setfreq h
  next h => exact .getfreq h
  next h => exact .swreset h
  next h => exact .setstr h
  next h => exact .coils h
  next h => exact .idle h
  next h => exact .step h
  next h => exact .stop h
  next => exact .unknown (by simp_all [opcodes])

/-! ### When a format's word is legal (R92) -/

section

variable {w : Word} {i j : Instr}

theorem reserved_eq_legal_iff {zero : Bool} : reserved zero i = .legal j ↔ zero = true ∧ i = j := by
  cases zero <;> simp [reserved]

theorem formatN_eq_legal_iff : formatN w i = .legal j ↔ field w 0 56 = 0#56 ∧ i = j := by
  simp [formatN, reserved_eq_legal_iff]

theorem formatC_eq_legal_iff : formatC w = .legal j ↔
    field w 0 16 = 0#16 ∧ .wrch (field w 48 8) (field w 32 16) (field w 16 16) = j := by
  simp [formatC, reserved_eq_legal_iff]

theorem formatA_eq_legal_iff : formatA w = .legal j ↔
    (field w 48 8 = 0#8 ∧ field w 0 16 = 0#16) ∧ .wrall (field w 32 16) (field w 16 16) = j := by
  simp [formatA, reserved_eq_legal_iff]

theorem formatP_eq_legal_iff : formatP w = .legal j ↔
    field w 1 47 = 0#47 ∧ .setpin (field w 48 8) (.ofBit (field w 0 1)) = j := by
  simp [formatP, reserved_eq_legal_iff]

theorem formatQ_eq_legal_iff {f : BitVec 32 → BitVec 24 → Instr} : formatQ w f = .legal j ↔
    field w 0 24 ≠ 0#24 ∧ f (field w 24 32) (field w 0 24) = j := by
  by_cases h : field w 0 24 = 0#24 <;> simp [formatQ, h]

theorem formatK_eq_legal_iff : formatK w = .legal j ↔ field w 4 52 = 0#52 ∧ .coils (field w 0 4) = j := by
  simp [formatK, reserved_eq_legal_iff]

theorem formatS_eq_legal_iff : formatS w = .legal j ↔
    (field w 49 7 = 0#7 ∧ field w 32 16 = 0#16) ∧ .step (.ofBit (field w 48 1)) (field w 0 32) = j := by
  simp [formatS, reserved_eq_legal_iff]

/-! ### The word of a format is its fields put together (R82 to R89) -/

theorem word_of_formatN {op : BitVec 8} (opc : opcode w = op) (rest : field w 0 56 = 0#56) : op ++ 0#56 = w := by
  rw [← opc, ← rest, opcode, field_append, field_all]
  all_goals rfl

theorem encode_of_formatC (opc : opcode w = 0x02#8) (rest : field w 0 16 = 0#16) :
    encode (.wrch (field w 48 8) (field w 32 16) (field w 16 16)) = w := by
  rw [encode, ← opc, ← rest, opcode, field_append, field_append, field_append, field_append, field_all]
  all_goals rfl

theorem encode_of_formatA (opc : opcode w = 0x03#8) (high : field w 48 8 = 0#8) (rest : field w 0 16 = 0#16) :
    encode (.wrall (field w 32 16) (field w 16 16)) = w := by
  rw [encode, ← opc, ← high, ← rest, opcode, field_append, field_append, field_append, field_append, field_all]
  all_goals rfl

theorem encode_of_formatP (opc : opcode w = 0x04#8) (rest : field w 1 47 = 0#47) :
    encode (.setpin (field w 48 8) (.ofBit (field w 0 1))) = w := by
  rw [encode, PinState.bit_ofBit, ← opc, ← rest, opcode, field_append, field_append, field_append, field_all]
  all_goals rfl

theorem word_of_formatQ {op : BitVec 8} (opc : opcode w = op) : op ++ field w 24 32 ++ field w 0 24 = w := by
  rw [← opc, opcode, field_append, field_append, field_all]
  all_goals rfl

theorem encode_of_formatK (opc : opcode w = 0x11#8) (rest : field w 4 52 = 0#52) :
    encode (.coils (field w 0 4)) = w := by
  rw [encode, ← opc, ← rest, opcode, field_append, field_append, field_all]
  all_goals rfl

theorem encode_of_formatS (opc : opcode w = 0x13#8) (high : field w 49 7 = 0#7) (rest : field w 32 16 = 0#16) :
    encode (.step (.ofBit (field w 48 1)) (field w 0 32)) = w := by
  rw [encode, Dir.bit_ofBit, ← opc, ← high, ← rest, opcode, field_append, field_append, field_append, field_append,
    field_all]
  all_goals rfl

end

/-! ### Decode and encode are inverse -/

/-- A legal word is the encoding of its command, which is well formed. -/
theorem encode_of_decode {w : Word} {i : Instr} (h : decode w = .legal i) : i.wf = true ∧ encode i = w := by
  have hd := decodes_decode w
  generalize decode w = d at hd h
  cases hd with
  | init opc | getfreq opc | swreset opc | idle opc | stop opc =>
    obtain ⟨rest, rfl⟩ := formatN_eq_legal_iff.1 h
    exact ⟨rfl, word_of_formatN opc rest⟩
  | wrch opc =>
    obtain ⟨rest, rfl⟩ := formatC_eq_legal_iff.1 h
    exact ⟨rfl, encode_of_formatC opc rest⟩
  | wrall opc =>
    obtain ⟨⟨high, rest⟩, rfl⟩ := formatA_eq_legal_iff.1 h
    exact ⟨rfl, encode_of_formatA opc high rest⟩
  | setpin opc =>
    obtain ⟨rest, rfl⟩ := formatP_eq_legal_iff.1 h
    exact ⟨rfl, encode_of_formatP opc rest⟩
  | setfreq opc | setstr opc =>
    obtain ⟨den, rfl⟩ := formatQ_eq_legal_iff.1 h
    exact ⟨bne_iff_ne.2 den, word_of_formatQ opc⟩
  | coils opc =>
    obtain ⟨rest, rfl⟩ := formatK_eq_legal_iff.1 h
    exact ⟨rfl, encode_of_formatK opc rest⟩
  | step opc =>
    obtain ⟨⟨high, rest⟩, rfl⟩ := formatS_eq_legal_iff.1 h
    exact ⟨rfl, encode_of_formatS opc high rest⟩
  | unknown opc => exact absurd h Decoded.noConfusion

/-- The decoder reads back the fields that the encoder wrote. -/
theorem decode_encode {i : Instr} (h : i.wf = true) : decode (encode i) = .legal i := by
  cases i with
  | init => simp [decode, formatN, reserved]
  | wrch ch onTick offTick => simp [decode, formatC, reserved]
  | wrall onTick offTick => simp [decode, formatA, reserved]
  | setpin ch pin => simp [decode, formatP, reserved]
  | setfreq num den => simpa [decode, formatQ, Instr.wf] using h
  | getfreq => simp [decode, formatN, reserved]
  | swreset => simp [decode, formatN, reserved]
  | setstr num den => simpa [decode, formatQ, Instr.wf] using h
  | coils c => simp [decode, formatK, reserved]
  | idle => simp [decode, formatN, reserved]
  | step dir count => simp [decode, formatS, reserved]
  | stop => simp [decode, formatN, reserved]

/-- Settles O1: a legal word is its fields put together, and each field of an encoding reads back. -/
theorem decodeEncodeBijection : Obligations.DecodeEncodeBijection := by
  refine fun w i => ⟨encode_of_decode, ?_⟩
  rintro ⟨hwf, rfl⟩
  exact decode_encode hwf

/-! ### The opcode table (R90) -/

/-- A field that a row fixes is, in a word of the row, the row's. -/
theorem OpRow.field_of_matches {r : OpRow} {w : Word} (h : r.matches w = true) {lo len : Nat}
    (fixed : field r.mask lo len = BitVec.allOnes len) : field w lo len = field r.bits lo len := by
  rw [← eq_of_beq h, field, field, BitVec.extractLsb'_and, ← field, ← field, fixed, BitVec.and_allOnes]

/-- Every row fixes the opcode, and the rows' opcodes differ. -/
theorem opcodeTable_opcodes :
    (∀ r ∈ opcodeTable, field r.mask 56 8 = BitVec.allOnes 8) ∧
    (∀ r ∈ opcodeTable, ∀ r' ∈ opcodeTable, field r.bits 56 8 = field r'.bits 56 8 → r = r') := by
  decide

/-- The encoding of a command is a word of the row with its mnemonic: the row's mask covers the opcode and the fields
that are 0. -/
theorem encode_matches_row (i : Instr) :
    ∃ r ∈ opcodeTable, r.mnemonic = i.mnemonic ∧ r.matches (encode i) = true := by
  cases i with
  | init => exact ⟨opcodeTable[0], by decide, rfl, by decide⟩
  | wrch ch onTick offTick =>
    refine ⟨opcodeTable[1], by decide, rfl, beq_iff_eq.2 ?_⟩
    show (0x02#8 ++ ch ++ onTick ++ offTick ++ 0#16) &&&
      (BitVec.allOnes 8 ++ 0#8 ++ 0#16 ++ 0#16 ++ BitVec.allOnes 16) = _
    simp only [BitVec.and_append, BitVec.and_allOnes, BitVec.and_zero]
    rfl
  | wrall onTick offTick =>
    refine ⟨opcodeTable[2], by decide, rfl, beq_iff_eq.2 ?_⟩
    show (0x03#8 ++ 0#8 ++ onTick ++ offTick ++ 0#16) &&&
      (BitVec.allOnes 8 ++ BitVec.allOnes 8 ++ 0#16 ++ 0#16 ++ BitVec.allOnes 16) = _
    simp only [BitVec.and_append, BitVec.and_allOnes, BitVec.and_zero]
    rfl
  | setpin ch pin =>
    refine ⟨opcodeTable[3], by decide, rfl, beq_iff_eq.2 ?_⟩
    show (0x04#8 ++ ch ++ 0#47 ++ pin.bit) &&&
      (BitVec.allOnes 8 ++ 0#8 ++ BitVec.allOnes 47 ++ 0#1) = _
    simp only [BitVec.and_append, BitVec.and_allOnes, BitVec.and_zero]
    rfl
  | setfreq num den =>
    refine ⟨opcodeTable[4], by decide, rfl, beq_iff_eq.2 ?_⟩
    show (0x05#8 ++ num ++ den) &&&
      (BitVec.allOnes 8 ++ 0#32 ++ 0#24) = _
    simp only [BitVec.and_append, BitVec.and_allOnes, BitVec.and_zero]
    rfl
  | getfreq => exact ⟨opcodeTable[5], by decide, rfl, by decide⟩
  | swreset => exact ⟨opcodeTable[6], by decide, rfl, by decide⟩
  | setstr num den =>
    refine ⟨opcodeTable[7], by decide, rfl, beq_iff_eq.2 ?_⟩
    show (0x10#8 ++ num ++ den) &&&
      (BitVec.allOnes 8 ++ 0#32 ++ 0#24) = _
    simp only [BitVec.and_append, BitVec.and_allOnes, BitVec.and_zero]
    rfl
  | coils c =>
    refine ⟨opcodeTable[8], by decide, rfl, beq_iff_eq.2 ?_⟩
    show (0x11#8 ++ 0#52 ++ c) &&&
      (BitVec.allOnes 8 ++ BitVec.allOnes 52 ++ 0#4) = _
    simp only [BitVec.and_append, BitVec.and_allOnes, BitVec.and_zero]
    rfl
  | idle => exact ⟨opcodeTable[9], by decide, rfl, by decide⟩
  | step dir count =>
    refine ⟨opcodeTable[10], by decide, rfl, beq_iff_eq.2 ?_⟩
    show (0x13#8 ++ 0#7 ++ dir.bit ++ 0#16 ++ count) &&&
      (BitVec.allOnes 8 ++ BitVec.allOnes 7 ++ 0#1 ++ BitVec.allOnes 16 ++ 0#32) = _
    simp only [BitVec.and_append, BitVec.and_allOnes, BitVec.and_zero]
    rfl
  | stop => exact ⟨opcodeTable[11], by decide, rfl, by decide⟩

/-- Where DEN is not 0, a word of a row is the encoding of a well-formed command with the row's mnemonic. -/
theorem OpRow.exists_encode_of_matches {r : OpRow} {w : Word} (hr : r ∈ opcodeTable) (h : r.matches w = true)
    (hden : r.mnemonic = "SETFREQ" ∨ r.mnemonic = "SETSTR" → field w 0 24 ≠ 0) :
    ∃ i : Instr, i.wf = true ∧ encode i = w ∧ i.mnemonic = r.mnemonic := by
  have opc : opcode w = field r.bits 56 8 := field_of_matches h (opcodeTable_opcodes.1 r hr)
  have fixed {lo len : Nat} := field_of_matches h (lo := lo) (len := len)
  simp only [opcodeTable, List.mem_cons, List.not_mem_nil, or_false] at hr
  obtain rfl | rfl | rfl | rfl | rfl | rfl | rfl | rfl | rfl | rfl | rfl | rfl := hr
  · exact ⟨.init, rfl, word_of_formatN opc (fixed (by decide)), rfl⟩
  · exact ⟨_, rfl, encode_of_formatC opc (fixed (by decide)), rfl⟩
  · exact ⟨_, rfl, encode_of_formatA opc (fixed (by decide)) (fixed (by decide)), rfl⟩
  · exact ⟨_, rfl, encode_of_formatP opc (fixed (by decide)), rfl⟩
  · exact ⟨.setfreq _ _, bne_iff_ne.2 (hden (.inl rfl)), word_of_formatQ opc, rfl⟩
  · exact ⟨.getfreq, rfl, word_of_formatN opc (fixed (by decide)), rfl⟩
  · exact ⟨.swreset, rfl, word_of_formatN opc (fixed (by decide)), rfl⟩
  · exact ⟨.setstr _ _, bne_iff_ne.2 (hden (.inr rfl)), word_of_formatQ opc, rfl⟩
  · exact ⟨_, rfl, encode_of_formatK opc (fixed (by decide)), rfl⟩
  · exact ⟨.idle, rfl, word_of_formatN opc (fixed (by decide)), rfl⟩
  · exact ⟨_, rfl, encode_of_formatS opc (fixed (by decide)) (fixed (by decide)), rfl⟩
  · exact ⟨.stop, rfl, word_of_formatN opc (fixed (by decide)), rfl⟩

/-- Settles O2: a legal word is an encoding, a row's word is one too, and the rows differ in their opcodes. -/
theorem decodeAgreesWithOpcodeTable : Obligations.DecodeAgreesWithOpcodeTable := by
  refine ⟨fun w i h => ?row, fun w r hr h hden => ?command, fun w r hr r' hr' h h' => ?disjoint⟩
  case row =>
    obtain ⟨-, rfl⟩ := encode_of_decode h
    exact encode_matches_row i
  case command =>
    obtain ⟨i, hwf, rfl, hname⟩ := OpRow.exists_encode_of_matches hr h hden
    exact ⟨i, decode_encode hwf, hname⟩
  case disjoint =>
    obtain ⟨hfixed, hdiffer⟩ := opcodeTable_opcodes
    have opc : opcode w = field r.bits 56 8 := OpRow.field_of_matches h (hfixed r hr)
    have opc' : opcode w = field r'.bits 56 8 := OpRow.field_of_matches h' (hfixed r' hr')
    exact hdiffer r hr r' hr' (opc.symm.trans opc')

/-! ### Illegal words (R92) -/

theorem exists_illegal_iff {d : Decoded} : (∃ e, d = .illegal e) ↔ ¬ ∃ i, d = .legal i := by
  cases d <;> simp

/-- Settles O3: the decoder's format of each opcode is illegal exactly when a field it requires to be 0 is not. -/
theorem illegalWordsAreTheThreeCases : Obligations.IllegalWordsAreTheThreeCases := by
  intro w
  rw [exists_illegal_iff]
  have hd := decodes_decode w
  generalize decode w = d at hd
  cases hd with
  | init opc | getfreq opc | swreset opc | idle opc | stop opc => simp [opc, formatN_eq_legal_iff]
  | wrch opc => simp [opc, formatC_eq_legal_iff]
  | wrall opc => simp [opc, formatA_eq_legal_iff, imp_iff_not_or]
  | setpin opc => simp [opc, formatP_eq_legal_iff]
  | setfreq opc | setstr opc => simp [opc, formatQ_eq_legal_iff]
  | coils opc => simp [opc, formatK_eq_legal_iff]
  | step opc => simp [opc, formatS_eq_legal_iff, imp_iff_not_or]
  | unknown opc => exact iff_of_true (by simp) (.inl opc)

/-! ### Sample words -/

/-- Settles O4: the decoder evaluated on each word. -/
theorem sampleWordsDecode : Obligations.SampleWordsDecode := by
  unfold Obligations.SampleWordsDecode
  decide

end Sys2Proof

namespace Sys2Proof.Machine

/-! ### Pseudo-instructions (R96) -/

/-- Settles O5: each pseudo-instruction and its expansion are the same command; the two lines are read by evaluation. -/
theorem pseudoInstructionsExpand : Obligations.PseudoInstructionsExpand :=
  ⟨fun _ => ⟨rfl, rfl⟩, fun _ => ⟨rfl, rfl⟩, by decide, by decide, by decide +kernel, by decide +kernel⟩

/-! ### A transaction answered err (R205) -/

/-- The failure exit of a command: COILS and IDLE end their coil update (R164), STEP its loop as well (R182). -/
def failExit (c : Ctx) (s : State) : Instr → State
  | .step _ _ => s.stepFail c
  | .coils _ | .idle => s.endPulse.busFail c .none
  | _ => s.busFail c .none

/-- The positions whose segment starts with a transaction's answer: not segment 1, and none after a wait (R71). -/
theorem afterTransaction_iff {i : Instr} {pos : Nat} : i.afterTransaction pos = true ↔
    pos ≠ 0 ∧ pos ≤ i.lastPos ∧ (i.isInit = true → pos ≠ 7 ∧ pos ≠ 10) ∧ (i.isSetfreq = true → pos ≠ 5) ∧
      (i.isStep = true → pos ≠ 17) := by
  cases i <;> simp [Instr.afterTransaction, Instr.isInit, Instr.isSetfreq, Instr.isStep, and_assoc, Nat.pos_iff_ne_zero]

theorem initSegment_of_err {c : Ctx} (h0 : c.pos ≠ 0) (h7 : c.pos ≠ 7) (h10 : c.pos ≠ 10) (ha : c.answer = .err)
    (s : State) : initSegment c s = s.busFail c .none := by
  unfold initSegment
  split
  next h => exact absurd h h0
  next => exact answered_err ha _ _
  next h => exact absurd h h7
  next => exact answered_err ha _ _
  next => exact answered_err ha _ _
  next h => exact absurd h h10
  next => exact answered_err ha _ _

theorem setfreqRest_of_err {c : Ctx} (h5 : c.pos ≠ 5) (ha : c.answer = .err) (s : State) :
    setfreqRest c s = s.busFail c .none := by
  unfold setfreqRest
  split
  next => exact answered_err ha _ _
  next => exact answered_err ha _ _
  next => exact answered_err ha _ _
  next => exact answered_err ha _ _
  next h => exact absurd h h5
  next => exact answered_err ha _ _

theorem coilSegment_of_err {c : Ctx} (h0 : c.pos ≠ 0) (ha : c.answer = .err) (pattern : CoilState) (s : State) :
    coilSegment pattern c s = s.endPulse.busFail c .none := by
  unfold coilSegment
  split
  next h => exact absurd h h0
  next => exact answered_err ha _ _

/-- A segment that starts with the answer `err` is its command's failure exit. -/
theorem exec_of_err {i : Instr} {s : State} {c : Ctx} (hc : s.ctx? = some c)
    (hpos : i.afterTransaction c.pos = true) (ha : c.answer = .err) : exec i s = .next (failExit c s i) := by
  obtain ⟨h0, hlast, hinit, hfreq, hstep⟩ := afterTransaction_iff.1 hpos
  cases i <;> refine (onCtx_of_ctx hc _).trans (congrArg Host.Outcome.next ?_)
  case init => exact initSegment_of_err h0 (hinit rfl).1 (hinit rfl).2 ha s
  case coils pattern => exact coilSegment_of_err h0 ha pattern s
  case idle => exact coilSegment_of_err h0 ha 0 s
  case stop => exact absurd hlast (by simpa [Instr.lastPos] using h0)
  case setfreq num den =>
    split
    next h => exact absurd h h0
    next => exact setfreqRest_of_err (hfreq rfl) ha s
  case step dir count =>
    split
    next h => exact absurd h h0
    next h => exact absurd h (hstep rfl)
    next => exact answered_err ha _ _
  all_goals
    split
    next h => exact absurd h h0
    next => exact answered_err ha _ _

/-- Settles O41: the segment is the command's failure exit, which is the state that R205 describes. -/
theorem transportFailureEndsTheCommand : Obligations.TransportFailureEndsTheCommand := by
  intro i s c hc hpos ha
  refine ⟨failExit c s i, _, exec_of_err hc hpos ha, rfl, ?_⟩
  cases i <;> rfl

/-! ### The end of a STEP iteration (R180, R181) -/

/-- The block at the end time u of an iteration whose segment began in s with context c: the clock read, after the wait
or once the elapsed time is measured. -/
structure IterationOver (s : State) (c : Ctx) (u : Rat) (v : State) : Prop where
  params : v.params = s.params
  cur : v.cur = s.cur
  seqState : v.seqState = s.seqState
  cancel : v.cancel = s.cancel
  stepIndex : v.stepIndex = s.stepIndex
  env : v.env = s.env.dropClock
  lastClock : v.lastClock = u
  trace : v.trace = s.trace ++ [Event.clock s.cur u]
  pulsing : v.pulsing = if c.pos = 17 then s.pulsing else false
  ports : ∀ q, v.ports.modify s.cur (fun _ => q) = s.ports.modify s.cur (fun _ => q)
  ctx : ∃ c', v.ctx? = some c' ∧ c'.i = c.i ∧ c'.tFirst = c.tFirst

/-- After the iteration's wait (R220). -/
theorem IterationOver.resume {s : State} {c : Ctx} (hc : s.ctx? = some c) (hpos : c.pos = 17) :
    IterationOver s c (s.resume c).lastClock (s.resume c) := by
  constructor
  case ports =>
    intro q
    simp only [State.resume, State.modCtx_ports, State.readClockFrom_ports, State.readClockFrom_cur,
      List.modify_modify_eq]
    rfl
  case ctx =>
    exact ⟨c.resumed, State.ctx?_modCtx (s := s.readClockFrom (c.deadline.getD 0)) hc Ctx.resumed, rfl, rfl⟩
  all_goals simp [hpos]

@[simp] theorem State.endPulse_clockValue (b : Rat) (s : State) : s.endPulse.clockValue b = s.clockValue b := rfl

/-- At once, when the interval has elapsed. -/
theorem IterationOver.measured {s : State} {c : Ctx} (hc : s.ctx? = some c) (hpos : c.pos = 16) :
    IterationOver s c s.readClock.lastClock s.endPulse.readClock := by
  constructor
  case ctx => exact ⟨c, hc, rfl, rfl⟩
  all_goals simp [hpos]

/-- The segment that ends an iteration at time u goes to the top of the loop (R180). -/
theorem exec_step_iterationOver {dir : Dir} {count : BitVec 32} {s : State} {c : Ctx} {u : Rat}
    (hc : s.ctx? = some c)
    (h : (c.pos = 17 ∧ u = (s.resume c).lastClock) ∨
      (c.pos = 16 ∧ c.answer ≠ .err ∧ u = s.readClock.lastClock ∧ 1000 / s.params.pulsesPerSecond ≤ u - c.tS)) :
    ∃ v, IterationOver s c u v ∧ exec (.step dir count) s = .next (v.endIteration c u) := by
  obtain ⟨hpos, rfl⟩ | ⟨hpos, ha, rfl, helapsed⟩ := h
  · refine ⟨s.resume c, .resume hc hpos, (onCtx_of_ctx hc _).trans ?_⟩
    simp only [hpos]
  · have hmeasure : s.measure c = s.endPulse.readClock.endIteration c s.readClock.lastClock :=
      if_neg (not_lt.2 helapsed)
    refine ⟨s.endPulse.readClock, .measured hc hpos, (onCtx_of_ctx hc _).trans ?_⟩
    simp only [hpos]
    rw [answered_ok ha, issue_ge s.stepWrites_length.le, hmeasure]

/-- The loop's response forgets the context (R98). -/
theorem State.endStep_modCtx (f : Ctx → Ctx) (d : Ctx) (duration : Rat) (cancelled : Bool) (s : State) :
    (s.modCtx f).endStep d duration cancelled = s.endStep d duration cancelled :=
  State.respond_modCtx f _ _ s.endLoop

theorem Ctx.duration_endIteration {c : Ctx} {t0 : Rat} (h : c.tFirst = some t0) (u : Rat) :
    (c.endIteration u).duration = u - t0 := by
  simp [Ctx.duration, h]

/-- What the start of an iteration leaves, on a port whose context is d (R180 steps 1 to 3). -/
theorem State.beginIteration_spec {s : State} {d : Ctx} (hd : s.ctx? = some d) (c : Ctx) :
    ∃ w, (coilWrites s.params.wiring s.params.coilTable[nextIndex s.stepIndex c.dir])[0]? = some w ∧
      let t := s.beginIteration c
      t.seqState = s.seqState ∧ t.cancel = s.cancel ∧ t.pulsing = true ∧ t.stepIndex = nextIndex s.stepIndex c.dir ∧
        t.lastClock = s.clockValue 0 ∧
        t.trace = s.trace ++ [Event.clock s.cur t.lastClock,
          .write s.cur s.params.dev w.reg w.val s.env.dropClock.nextAck] ∧
        t.ctx? = some ((d.startIteration t.lastClock).tookAck s.env.dropClock.nextAck) := by
  obtain ⟨w, hw, hbegin⟩ := s.beginIteration_eq c
  have hd' : s.ctxAt s.cur = some d := hd
  refine ⟨w, hw, ?_⟩
  rw [hbegin]
  simp [State.ctx?, hd']

section

variable {s v : State} {c : Ctx} {u t0 : Rat}

/-- The loop ends with its response (R98, R180, R185, R188). -/
theorem IterationOver.endStep (h : IterationOver s c u v) (d : Ctx) (duration : Rat) (cancelled : Bool) {r : Response}
    (hr : r = ⟨.ok, .stepped (BitVec.ofNat 32 d.i) d.dir duration cancelled⟩) :
    let t := v.endStep d duration cancelled
    t.seqState = .idle ∧ t.cancel = false ∧ t.stepIndex = s.stepIndex ∧
      t.trace = s.trace ++ [Event.clock s.cur u, .respond s.cur r] ∧
      t.ports = s.ports.modify s.cur (fun _ => ⟨false, none, some r⟩) ∧
      t.pulsing = (if c.pos = 17 then s.pulsing else false) := by
  subst hr
  have hports := h.ports ⟨false, none, some ⟨.ok, .stepped (BitVec.ofNat 32 d.i) d.dir duration cancelled⟩⟩
  simp [State.endStep, h.stepIndex, h.trace, h.cur, h.pulsing, hports]

/-- `cancel` is set and iterations remain: the loop ends cancelled. -/
theorem IterationOver.cancelled (h : IterationOver s c u v) (hfirst : c.tFirst = some t0)
    (hmore : c.i + 1 < c.count.toNat) (hcancel : s.cancel = true) :
    v.endIteration c u = v.endStep (c.endIteration u) (u - t0) true := by
  have hv : (v.modCtx (Ctx.endIteration u)).cancel = true := h.cancel.trans hcancel
  rw [State.endIteration, State.loopTop_cancelled (c := c.endIteration u) hmore hv, State.endStep_modCtx,
    Ctx.duration_endIteration hfirst]

/-- Every iteration is done: the loop is complete. -/
theorem State.endIteration_last (hfirst : c.tFirst = some t0) (hlast : c.i + 1 = c.count.toNat) (v : State) :
    v.endIteration c u = v.endStep (c.endIteration u) (u - t0) false := by
  have hcount : c.count ≠ 0 := by
    intro h0
    simp [h0] at hlast
  rw [State.endIteration, State.loopTop_done (c := c.endIteration u) hlast.ge, State.endStep_modCtx,
    Ctx.duration_endIteration hfirst]
  exact congrArg (v.endStep _ · false) (if_neg hcount)

/-- The next iteration, in the same segment up to its first write. -/
theorem IterationOver.next (h : IterationOver s c u v) (hfirst : c.tFirst = some t0)
    (hmore : c.i + 1 < c.count.toNat) (hcancel : s.cancel = false) :
    ∃ c' w, (coilWrites s.params.wiring s.params.coilTable[nextIndex s.stepIndex c.dir])[0]? = some w ∧
      let t := v.endIteration c u
      t.seqState = s.seqState ∧ t.cancel = false ∧ t.pulsing = true ∧ t.stepIndex = nextIndex s.stepIndex c.dir ∧
        u ≤ t.lastClock ∧
        t.trace = s.trace ++ [Event.clock s.cur u, .clock s.cur t.lastClock,
          .write s.cur s.params.dev w.reg w.val s.env.dropClock.dropClock.nextAck] ∧
        t.ctx? = some c' ∧ c'.pos = 1 ∧ c'.i = c.i + 1 ∧ c'.tEnd = u ∧ c'.tS = t.lastClock ∧ c'.tFirst = some t0 := by
  obtain ⟨d, hd, hi, htf⟩ := h.ctx
  have hx := State.ctx?_modCtx hd (Ctx.endIteration u)
  have hcancel' : (v.modCtx (Ctx.endIteration u)).cancel = false := h.cancel.trans hcancel
  obtain ⟨w, hw, hbegin⟩ := State.beginIteration_spec hx (c.endIteration u)
  rw [← State.loopTop_more (c := c.endIteration u) hmore hcancel', ← State.endIteration] at hbegin
  obtain ⟨hseq, hcan, hpulse, hindex, hclock, htrace, hctx⟩ := hbegin
  simp only [State.modCtx_params, State.modCtx_stepIndex, Ctx.endIteration_dir, h.params, h.stepIndex] at hw hindex
  refine ⟨_, w, hw, hseq.trans h.seqState, hcan.trans hcancel', hpulse, hindex, ?_, ?_, hctx, rfl, ?_, rfl, rfl, ?_⟩
  · rw [hclock, ← h.lastClock]
    exact (State.clockValue_ge _ 0).2.1
  · simpa [h.trace, h.cur, h.params, h.env] using htrace
  · simpa using hi
  · simpa [htf] using hfirst

end

/-- Settles O34: the iteration is over at time u, and the top of the loop ends the loop or begins the next one. -/
theorem stepIterationEnds : Obligations.StepIterationEnds := by
  intro dir count s c u t0 hc hfirst hend
  obtain ⟨v, hover, hexec⟩ := exec_step_iterationOver (dir := dir) (count := count) hc hend
  refine ⟨fun hmore hcancel => ?cancelled, fun hlast => ?complete, fun hmore hcancel => ?next⟩
  case cancelled =>
    exact ⟨_, hexec.trans (congrArg _ (hover.cancelled hfirst hmore hcancel)), hover.endStep _ _ _ rfl⟩
  case complete =>
    refine ⟨_, hexec.trans (congrArg _ (State.endIteration_last hfirst hlast v)), hover.endStep _ _ _ ?_⟩
    simp [hlast]
  case next =>
    obtain ⟨c', w, hw, ht⟩ := hover.next hfirst hmore hcancel
    exact ⟨_, c', w, hexec, hw, ht⟩

end Sys2Proof.Machine

/-! PROOFS. The statements of 40_driver.md: the pure functions of R110 to R116, the segments of the driver's commands
(R120 to R150), that only segment 1 reads `ready` (R118), whole runs of the group commands and of SETFREQ, and what such
a run says of the chip (R223, R224, R259). -/

namespace Sys2Proof.Machine

/-! ### Bytes (R110, R116) -/

/-- The two bytes of a tick value up to the sentinel, as numbers (R110). -/
theorem tickBytes_toNat {v : Nat} (h : v ≤ 4096) : (loByte v).toNat = v % 256 ∧ (hiByte v).toNat = v / 256 := by
  rw [loByte_eq, hiByte_eq, BitVec.toNat_ofNat, BitVec.toNat_ofNat]
  omega

theorem tickOf_tickBytes {v : Nat} (h : v ≤ 4096) : tickOf (loByte v) (hiByte v) = v := by
  obtain ⟨hlo, hhi⟩ := tickBytes_toNat h
  rw [tickOf, hlo, hhi, Nat.mod_add_div]

/-- Settles O16: the bytes are remainder and quotient by 256. -/
theorem tickBytesSplit : Obligations.TickBytesSplit := by
  refine ⟨fun v h => ?_, by decide⟩
  obtain ⟨hlo, hhi⟩ := tickBytes_toNat h
  refine ⟨hlo, hhi, ?_, tickOf_tickBytes h⟩
  rw [BitVec.le_def, hhi]
  exact Nat.div_le_div_right h

/-- The bits of the masks of R116. -/
theorem modeMask_bits : ∀ k < 8, (0x7F : Byte).getLsbD k = decide (k ≠ 7) ∧ maskSleep.getLsbD k = decide (k = 4) ∧
    (0xEF : Byte).getLsbD k = decide (k ≠ 4) ∧ maskRestart.getLsbD k = decide (k = 7) := by
  decide

/-- Settles O17: each function is one or two masks, whose bits are known. -/
theorem modeBytesChangeOnlyTheirBits : Obligations.ModeBytesChangeOnlyTheirBits := by
  intro x k hk
  obtain ⟨h7F, hsleep, hEF, hrestart⟩ := modeMask_bits k hk
  simp only [sleepByte, wakeByte, restartByte, BitVec.getLsbD_or, BitVec.getLsbD_and, h7F, hsleep, hEF, hrestart]
  refine ⟨?_, ?_, ?_⟩
  · by_cases h7 : k = 7
    · simp [h7]
    · by_cases h4 : k = 4 <;> simp [h7, h4]
  · by_cases h4 : k = 4 <;> simp [h4]
  · by_cases h7 : k = 7 <;> simp [h7]

/-! ### The prescale and the frequency (R113, R114) -/

theorem prescaleOf_eq (f : Rat) : prescaleOf f = ⌊25000000 / (4095 * f) + 1 / 2⌋ - 1 := rfl

/-- Every positive quotient x is the quotient of a frequency. -/
theorem prescaleOf_of_quotient {x : Rat} (hx : x ≠ 0) :
    prescaleOf (25000000 / (4095 * x)) = ⌊x + 1 / 2⌋ - 1 := by
  have h : (25000000 : Rat) / (4095 * (25000000 / (4095 * x))) = x := by field_simp
  rw [prescaleOf_eq, h]

/-- The integer formula (R113). -/
theorem prescaleOf_div {N D : Nat} (hN : 0 < N) (hD : 0 < D) :
    prescaleOf ((N : Rat) / (D : Rat)) = ((50000000 * D + 4095 * N) / (8190 * N) : Nat) - 1 := by
  have hN' : (N : Rat) ≠ 0 := by positivity
  have hD' : (D : Rat) ≠ 0 := by positivity
  have hquot : 25000000 / (4095 * ((N : Rat) / D)) + 1 / 2 =
      ((50000000 * D + 4095 * N : Nat) : Rat) / ((8190 * N : Nat) : Rat) := by
    push_cast
    field_simp
    ring
  rw [prescaleOf_eq, hquot, Rat.floor_natCast_div_natCast, Int.natCast_div]

/-- The example of R113. -/
theorem prescaleOf_1600 : prescaleOf 1600 = 3 := by
  simpa using prescaleOf_div (N := 1600) (D := 1) (by decide) (by decide)

/-- Settles O18: `prescaleOf_div`, and for every n a frequency whose quotient n + 5/4 rounds to n + 1. -/
theorem prescaleIsTheIntegerFormula : Obligations.PrescaleIsTheIntegerFormula := by
  refine ⟨fun N D => prescaleOf_div, fun f hf => ⟨prescaleOf_eq f, ?lower⟩, fun n hn => ?every, ?sample⟩
  case lower =>
    have h : 0 ≤ ⌊25000000 / (4095 * f) + 1 / 2⌋ := Int.floor_nonneg.2 (by positivity)
    rw [prescaleOf_eq]
    omega
  case every =>
    have hx : (0 : Rat) < n + 5 / 4 := by
      have : (-1 : Rat) ≤ n := by exact_mod_cast hn
      linarith
    have hfloor : ⌊(n : Rat) + 5 / 4 + 1 / 2⌋ = n + 1 := by
      rw [Int.floor_eq_iff]
      push_cast
      constructor <;> linarith
    refine ⟨25000000 / (4095 * (n + 5 / 4)), by positivity, ?_⟩
    rw [prescaleOf_of_quotient hx.ne', hfloor, add_sub_cancel_right]
  case sample => exact prescaleOf_1600

/-- Settles O19: the range of the rounded quotient, for the quotient of f. -/
theorem prescaleFitsAByteWhen : Obligations.PrescaleFitsAByteWhen := by
  intro f _
  obtain ⟨habove, hbelow⟩ := roundHalfUp_range (25000000 / (4095 * f))
  exact ⟨not_lt.symm.trans ((not_congr habove).trans not_le), not_lt.symm.trans ((not_congr hbelow).trans not_lt)⟩

theorem freqOf_eq (p : Byte) : freqOf p = 25000000 / ((p.toNat + 1) * 4096) := rfl

theorem freqOf_ofNat {n : Nat} (h : n < 256) : freqOf (BitVec.ofNat 8 n) = 25000000 / ((n + 1) * 4096) := by
  rw [freqOf_eq, BitVec.toNat_ofNat, Nat.mod_eq_of_lt h]

/-- Settles O20: 1600 Hz gives the prescale 3, whose frequency is another one. -/
theorem frequencyOfPrescale : Obligations.FrequencyOfPrescale := by
  have h3 : freqOf 3 = 390625 / 256 := (freqOf_ofNat (n := 3) (by decide)).trans (by norm_num)
  refine ⟨fun p => ⟨?_, ?_⟩, fun p q hpq => ?_, h3, ?_, ?_, ?_⟩
  · rw [freqOf_eq]
    positivity
  · rw [freqOf_eq]
    field_simp
  · have h : (p.toNat : Rat) < q.toNat := by exact_mod_cast BitVec.lt_def.1 hpq
    rw [freqOf_eq, freqOf_eq]
    gcongr
  · exact (freqOf_ofNat (n := 0) (by decide)).trans (by norm_num)
  · exact (freqOf_ofNat (n := 255) (by decide)).trans (by norm_num)
  · rw [prescaleOf_1600, show BitVec.ofInt 8 3 = 3 from rfl, h3]
    norm_num

/-! ### The writes of a coil update (R163, R164) -/

/-- The four writes of a channel's group, with the registers as R52 numbers them. -/
theorem groupWrites_chanBase (n onTick offTick : Nat) : groupWrites (chanBase n) onTick offTick =
    [⟨BitVec.ofNat 8 (6 + 4 * n), loByte onTick⟩, ⟨BitVec.ofNat 8 (6 + 4 * n + 1), hiByte onTick⟩,
      ⟨BitVec.ofNat 8 (6 + 4 * n + 2), loByte offTick⟩, ⟨BitVec.ofNat 8 (6 + 4 * n + 3), hiByte offTick⟩] := by
  simp only [BitVec.ofNat_add (6 + 4 * n)]
  rfl

/-- The four writes that turn a coil pin on or off, as bytes (R135, R163). -/
theorem pinWrites_coilPin (ch k : Nat) (c : CoilState) : pinWrites ch (coilPin c k) =
    [⟨BitVec.ofNat 8 (6 + 4 * ch), 0x00⟩,
      ⟨BitVec.ofNat 8 (6 + 4 * ch + 1), if c.getLsbD k then 0x10 else 0x00⟩,
      ⟨BitVec.ofNat 8 (6 + 4 * ch + 2), 0x00⟩,
      ⟨BitVec.ofNat 8 (6 + 4 * ch + 3), if c.getLsbD k then 0x00 else 0x10⟩] := by
  unfold coilPin
  split <;> exact groupWrites_chanBase ch _ _

/-- Settles O23: the four pins in their order. -/
theorem coilWritesFollowTheWiring : Obligations.CoilWritesFollowTheWiring := by
  intro w c
  refine ⟨?_, coilWrites_length w c⟩
  simp only [coilWrites, pinWrites_coilPin]

end Sys2Proof.Machine

namespace Sys2Proof.Machine

/-! ### The segments after the first (R71) -/

/-- What a segment of a command does at a position other than 0, from context c of s. -/
def restSegment (c : Ctx) (s : State) : Instr → State
  | .init => initSegment c s
  | .wrch ch onTick offTick => restOfWrites (wrchWrites ch onTick offTick) c s
  | .wrall onTick offTick => restOfWrites (wrallWrites onTick offTick) c s
  | .setpin ch pin => restOfWrites (pinWrites ch.toNat pin) c s
  | .setfreq _ _ => setfreqRest c s
  | .getfreq => answered c (s.busFail c .none)
      ((s.modCtx (Ctx.keepP8 c.answer.byte)).respond .ok (.prescaleFreq c.answer.byte (freqOf c.answer.byte)))
  | .swreset => answered c (s.busFail c .none) (s.respond .ok .none)
  | .setstr num den => answered c (s.busFail c .none)
      (issue (dutyWrites s.params.wiring c.duty) c.pos
        (fun s => (s.setThrottle (strOperand num den)).respond .ok .none) s)
  | .coils pattern => coilSegment pattern c s
  | .idle => coilSegment 0 c s
  | .step _ _ =>
    if c.pos = 17 then (s.resume c).endIteration c (s.resume c).lastClock
    else answered c (s.stepFail c) (issue s.stepWrites c.pos (State.measure c) s)
  | .stop => s.requestStop.respond .ok .none

theorem exec_rest {i : Instr} {s : State} {c : Ctx} (hc : s.ctx? = some c) (h0 : c.pos ≠ 0) :
    exec i s = .next (restSegment c s i) := by
  cases i <;> refine (onCtx_of_ctx hc _).trans (congrArg Host.Outcome.next ?_)
  case init => rfl
  case coils => rfl
  case idle => rfl
  case stop => rfl
  case step dir count =>
    split
    next h => exact absurd h h0
    next h => exact (if_pos h).symm
    next h => exact (if_neg h).symm
  all_goals
    split
    next h => exact absurd h h0
    next => rfl

/-! ### INIT, SETFREQ, GETFREQ and SWRESET segment by segment -/

section

variable {s : State} {c : Ctx}

theorem exec_init (hc : s.ctx? = some c) : exec .init s = .next (initSegment c s) := onCtx_of_ctx hc _

/-- INIT's k-th write (R120 steps 1 to 3). -/
theorem exec_init_write {k : Nat} {r v : Byte} (hc : s.ctx? = some c) (ha : c.answer ≠ .err)
    (hw : initWrites[k]? = some ⟨r, v⟩) (h0 : 0 < k) (hpos : c.pos = k) : exec .init s = .next (s.busWrite r v) := by
  subst hpos
  obtain ⟨hlt, hget⟩ := List.getElem?_eq_some_iff.1 hw
  rw [exec_init hc, initSegment_write h0 hlt ha, hget]

/-- Settles O24: `initSegment` position by position. -/
theorem initSegments : Obligations.InitSegments := by
  intro s c hc
  refine ⟨fun h => ?first, fun ha => ⟨exec_init_write hc ha rfl (by decide), exec_init_write hc ha rfl (by decide),
    exec_init_write hc ha rfl (by decide), exec_init_write hc ha rfl (by decide),
    exec_init_write hc ha rfl (by decide), fun h => ?wait⟩, fun h => ?read, fun m ha h => ?wake, fun h => ?readPrescale,
    fun p ha h => ?last⟩
  case first =>
    rw [exec_init hc]
    simp only [initSegment, h]
    rfl
  case wait =>
    rw [exec_init hc, initSegment_wait h ha]
    rfl
  case read => rw [exec_init hc, initSegment_readMode1 h]; rfl
  case wake => rw [exec_init hc, initSegment_wake h ha]; rfl
  case readPrescale => rw [exec_init hc, initSegment_readPrescale h]; rfl
  case last =>
    rw [exec_init hc, initSegment_last h ha]
    exact congrArg Host.Outcome.next (State.respond_modCtx _ _ _ (s.setReady true))

/-- Segment 1 of SETFREQ where its operand passes the checks (R140, R141). -/
theorem exec_setfreq_first {num : BitVec 32} {den : BitVec 24} {p : Int} (hc : s.ctx? = some c) (hpos : c.pos = 0)
    (hready : s.ready = true) (hnum : num ≠ 0) (hp : prescaleOf (freqOperand num den) = p) (h0 : 0 ≤ p)
    (h255 : p ≤ 255) :
    exec (.setfreq num den) s = .next ((s.modCtx (Ctx.keepP8 (BitVec.ofInt 8 p))).busRead regMode1) := by
  subst hp
  refine (onCtx_of_ctx hc _).trans (congrArg Host.Outcome.next ?_)
  simp only [hpos]
  rw [setfreqFirst, gated_ready hready, if_neg hnum, if_neg (by omega)]

theorem setfreqRest_sleep {old : Byte} (hpos : c.pos = 1) (ha : c.answer = .okByte old) :
    setfreqRest c s = (s.modCtx (Ctx.keepOld old)).busWrite regMode1 (sleepByte old) := by
  simp [setfreqRest, hpos, answered, ha, Answer.byte]

theorem setfreqRest_prescale (hpos : c.pos = 2) (ha : c.answer ≠ .err) :
    setfreqRest c s = s.busWrite regPrescale c.p8 := by
  simp [setfreqRest, hpos, answered_ok ha]

theorem setfreqRest_restore (hpos : c.pos = 3) (ha : c.answer ≠ .err) :
    setfreqRest c s = s.busWrite regMode1 c.old := by
  simp [setfreqRest, hpos, answered_ok ha]

theorem setfreqRest_wait (hpos : c.pos = 4) (ha : c.answer ≠ .err) : setfreqRest c s = s.waitFor 5 := by
  simp [setfreqRest, hpos, answered_ok ha, waitMs]

theorem setfreqRest_restart (hpos : c.pos = 5) :
    setfreqRest c s = (s.resume c).busWrite regMode1 (restartByte c.old) := by
  simp [setfreqRest, hpos]

theorem setfreqRest_last (hpos : c.pos = 6) (ha : c.answer ≠ .err) :
    setfreqRest c s = s.respond .ok (.prescale c.p8) := by
  simp [setfreqRest, hpos, answered_ok ha]

/-- A gated command's segment 1 in a block that is not ready (R202). -/
theorem exec_of_not_ready {i : Instr} (hc : s.ctx? = some c) (hpos : c.pos = 0) (hready : s.ready = false)
    (hi : i.needsReady = true) : exec i s = .next (s.respond .notReady .none) := by
  cases i
  case init | swreset | stop => cases hi
  case coils | idle =>
    refine (onCtx_of_ctx hc _).trans (congrArg Host.Outcome.next ?_)
    simp only [coilSegment, hpos]
    exact gated_not_ready hready _
  all_goals
    refine (onCtx_of_ctx hc _).trans (congrArg Host.Outcome.next ?_)
    simp only [hpos]
    exact gated_not_ready hready _

/-- Settles O28: segment 1, then `setfreqRest` position by position. -/
theorem setfreqSegments : Obligations.SetfreqSegments := by
  intro num den s c hc
  have hrest {k : Nat} (h : c.pos = k + 1) : exec (.setfreq num den) s = .next (setfreqRest c s) :=
    exec_rest hc (by omega)
  refine ⟨fun h hr => exec_of_not_ready hc h hr rfl, fun p hp h hr hn h0 h255 => ?first, fun old ha h => ?sleep,
    fun ha => ⟨fun h => ?prescale, fun h => ?restore, fun h => ?wait, fun h => ?last⟩, fun h => ?restart⟩
  case first => exact exec_setfreq_first hc h hr hn hp.symm h0 h255
  case sleep => rw [hrest h, setfreqRest_sleep h ha]; rfl
  case prescale => rw [hrest h, setfreqRest_prescale h ha]; rfl
  case restore => rw [hrest h, setfreqRest_restore h ha]; rfl
  case wait => rw [hrest h, setfreqRest_wait h ha]; rfl
  case last => rw [hrest h, setfreqRest_last h ha]
  case restart => rw [hrest h, setfreqRest_restart h]; rfl

/-- Settles O29: segment 1 of each command, then its response. -/
theorem getfreqAndSwresetSegments : Obligations.GetfreqAndSwresetSegments := by
  intro s c hc
  refine ⟨fun h hr => exec_of_not_ready hc h hr rfl, fun h hr => ?read, fun p ha h => ?freq, fun h => ?send,
    fun ha h => ?done⟩
  case read =>
    refine (onCtx_of_ctx hc _).trans (congrArg Host.Outcome.next ?_)
    simp only [h]
    exact gated_ready hr _
  case freq =>
    rw [exec_rest hc (by omega), restSegment, answered_ok (by simp [ha]), State.respond_modCtx, ha]
    rfl
  case send =>
    refine (onCtx_of_ctx hc _).trans ?_
    simp only [h]
    rfl
  case done => rw [exec_rest hc (by omega), restSegment, answered_ok ha]

end

/-! ### The group commands segment by segment -/

/-- Command i is one GroupWrite: from register b on, the tick pair (onTick, offTick) (R111, R125, R130, R135). -/
inductive GroupCommand : Instr → Byte → Nat → Nat → Prop
  | wrch (ch : BitVec 8) (onTick offTick : BitVec 16) :
      GroupCommand (.wrch ch onTick offTick) (chanBase ch.toNat) onTick.toNat offTick.toNat
  | wrall (onTick offTick : BitVec 16) : GroupCommand (.wrall onTick offTick) allBase onTick.toNat offTick.toNat
  | pinOn (ch : BitVec 8) : GroupCommand (.setpin ch .on) (chanBase ch.toNat) tickSentinel 0
  | pinOff (ch : BitVec 8) : GroupCommand (.setpin ch .off) (chanBase ch.toNat) 0 tickSentinel

namespace GroupCommand

variable {i : Instr} {b : Byte} {onTick offTick : Nat} {s : State} {c : Ctx}

theorem exec_first (h : GroupCommand i b onTick offTick) (hc : s.ctx? = some c) (hpos : c.pos = 0) :
    exec i s = .next (firstOfWrites i.operandsValid (groupWrites b onTick offTick) s) := by
  cases h <;> refine (onCtx_of_ctx hc _).trans ?_ <;> simp only [hpos] <;> rfl

theorem exec_later (h : GroupCommand i b onTick offTick) (hc : s.ctx? = some c) (h0 : c.pos ≠ 0)
    (ha : c.answer ≠ .err) :
    exec i s = .next (issue (groupWrites b onTick offTick) c.pos (State.respond .ok .none) s) := by
  rw [exec_rest hc h0]
  cases h <;> exact congrArg Host.Outcome.next (answered_ok ha _ _)

/-- Segment 1 of a block that is not ready (R202). -/
theorem exec_not_ready (h : GroupCommand i b onTick offTick) (hc : s.ctx? = some c) (hpos : c.pos = 0)
    (hready : s.ready = false) : exec i s = .next (s.respond .notReady .none) :=
  exec_of_not_ready hc hpos hready (by cases h <;> rfl)

/-- Segment 1 with operands out of range (R204). -/
theorem exec_invalid (h : GroupCommand i b onTick offTick) (hc : s.ctx? = some c) (hpos : c.pos = 0)
    (hready : s.ready = true) (hv : i.operandsValid ≠ true) : exec i s = .next (s.respond .validation .none) := by
  rw [h.exec_first hc hpos, firstOfWrites, gated_ready hready, if_neg hv]
  rfl

/-- The first write, in segment 1. -/
theorem exec_write_first (h : GroupCommand i b onTick offTick) (hc : s.ctx? = some c) (hpos : c.pos = 0)
    (hready : s.ready = true) (hv : i.operandsValid = true) : exec i s = .next (s.busWrite b (loByte onTick)) := by
  rw [h.exec_first hc hpos, firstOfWrites, gated_ready hready, if_pos hv]
  rfl

/-- The other writes, each in the segment that starts with the answer to the one before. -/
theorem exec_write {k : Nat} {r v : Byte} (h : GroupCommand i b onTick offTick) (hc : s.ctx? = some c)
    (ha : c.answer ≠ .err) (hw : (groupWrites b onTick offTick)[k]? = some ⟨r, v⟩) (h0 : k ≠ 0) (hpos : c.pos = k) :
    exec i s = .next (s.busWrite r v) := by
  subst hpos
  rw [h.exec_later hc h0 ha, issue, hw]

/-- The response after the last write. -/
theorem exec_done (h : GroupCommand i b onTick offTick) (hc : s.ctx? = some c) (ha : c.answer ≠ .err)
    (hpos : c.pos = 4) : exec i s = .next (s.respond .ok .none) := by
  rw [h.exec_later hc (by omega) ha, issue_ge hpos.ge]

end GroupCommand

/-- The bytes of a 16-bit tick operand (R110). -/
theorem loByte_toNat16 (v : BitVec 16) : loByte v.toNat = v.setWidth 8 := by
  rw [loByte_eq]
  exact BitVec.eq_of_toNat_eq (by simp)

theorem hiByte_toNat16 (v : BitVec 16) : hiByte v.toNat = (v >>> 8).setWidth 8 := by
  rw [hiByte_eq]
  exact BitVec.eq_of_toNat_eq (by simp [Nat.shiftRight_eq_div_pow])

theorem wrch_operandsValid (ch : BitVec 8) (onTick offTick : BitVec 16) :
    (Instr.wrch ch onTick offTick).operandsValid = true ↔
      ch.toNat < 16 ∧ onTick.toNat ≤ 4095 ∧ offTick.toNat ≤ 4095 := by
  simp only [Instr.operandsValid, Bool.and_eq_true, validCh_iff, validTick_iff]
  omega

theorem wrall_operandsValid (onTick offTick : BitVec 16) :
    (Instr.wrall onTick offTick).operandsValid = true ↔ onTick.toNat ≤ 4095 ∧ offTick.toNat ≤ 4095 := by
  simp only [Instr.operandsValid, Bool.and_eq_true, validTick_iff]
  omega

/-- Settles O25: WRCH is the group command of its channel's registers. -/
theorem wrchSegments : Obligations.WrchSegments := by
  intro ch onTick offTick s c hc
  have h : GroupCommand (.wrch ch onTick offTick) _ _ _ := .wrch ch onTick offTick
  have hvalid := wrch_operandsValid ch onTick offTick
  have hws := groupWrites_chanBase ch.toNat onTick.toNat offTick.toNat
  simp only [loByte_toNat16, hiByte_toNat16] at hws
  refine ⟨h.exec_not_ready hc, fun hpos hr hv => h.exec_invalid hc hpos hr (mt hvalid.1 hv), fun hpos hr hv => ?_,
    fun ha => ⟨h.exec_write hc ha (by rw [hws]; rfl) (by decide), h.exec_write hc ha (by rw [hws]; rfl) (by decide),
      h.exec_write hc ha (by rw [hws]; rfl) (by decide), h.exec_done hc ha⟩⟩
  rw [h.exec_write_first hc hpos hr (hvalid.2 hv), loByte_toNat16]
  rfl

/-- Settles O26: WRALL is the group command of the broadcast registers. -/
theorem wrallSegments : Obligations.WrallSegments := by
  intro onTick offTick s c hc
  have h : GroupCommand (.wrall onTick offTick) _ _ _ := .wrall onTick offTick
  have hvalid := wrall_operandsValid onTick offTick
  have hws : groupWrites allBase onTick.toNat offTick.toNat = [⟨0xFA, onTick.setWidth 8⟩,
      ⟨0xFB, (onTick >>> 8).setWidth 8⟩, ⟨0xFC, offTick.setWidth 8⟩, ⟨0xFD, (offTick >>> 8).setWidth 8⟩] := by
    rw [← loByte_toNat16, ← hiByte_toNat16, ← loByte_toNat16 offTick, ← hiByte_toNat16]
    rfl
  refine ⟨h.exec_not_ready hc, fun hpos hr hv => h.exec_invalid hc hpos hr (mt hvalid.1 hv), fun hpos hr hv => ?_,
    fun ha => ⟨h.exec_write hc ha (by rw [hws]; rfl) (by decide), h.exec_write hc ha (by rw [hws]; rfl) (by decide),
      h.exec_write hc ha (by rw [hws]; rfl) (by decide), h.exec_done hc ha⟩⟩
  rw [h.exec_write_first hc hpos hr (hvalid.2 hv), loByte_toNat16]
  rfl

/-- SETPIN is a group command, with the sentinel pair of its operand (R135). -/
theorem GroupCommand.setpin (ch : BitVec 8) (pin : PinState) :
    ∃ onTick offTick, GroupCommand (.setpin ch pin) (chanBase ch.toNat) onTick offTick ∧
      loByte onTick = 0x00 ∧ hiByte onTick = (if pin = .on then 0x10 else 0x00) ∧
      loByte offTick = 0x00 ∧ hiByte offTick = (if pin = .on then 0x00 else 0x10) := by
  cases pin with
  | on => exact ⟨_, _, .pinOn ch, by decide⟩
  | off => exact ⟨_, _, .pinOff ch, by decide⟩

/-- Settles O27: SETPIN is the group command of its channel's registers with a sentinel pair. -/
theorem setpinSegments : Obligations.SetpinSegments := by
  intro ch pin s c hc
  obtain ⟨onTick, offTick, h, honL, honH, hoffL, hoffH⟩ := GroupCommand.setpin ch pin
  have hvalid : (Instr.setpin ch pin).operandsValid = true ↔ ch.toNat < 16 := validCh_iff ch.toNat
  have hws := groupWrites_chanBase ch.toNat onTick offTick
  rw [honL, honH, hoffL, hoffH] at hws
  refine ⟨h.exec_not_ready hc, fun hpos hr hv => h.exec_invalid hc hpos hr (mt hvalid.1 (by omega)),
    fun hpos hr hv => ?_,
    fun ha => ⟨h.exec_write hc ha (by rw [hws]; rfl) (by decide), h.exec_write hc ha (by rw [hws]; rfl) (by decide),
      h.exec_write hc ha (by rw [hws]; rfl) (by decide), h.exec_done hc ha⟩⟩
  rw [h.exec_write_first hc hpos hr (hvalid.2 hv), honL]
  rfl

end Sys2Proof.Machine

namespace Sys2Proof.Machine

/-! ### Only segment 1 reads `ready` (R118, R252) -/

section

variable (b : Bool) {c : Ctx}

/-- What a segment does, with `ready` set before it or after it: the same, where its two branches do. -/
theorem setReady_answered {fail rest fail' rest' : State} (hfail : fail.setReady b = fail')
    (hrest : rest.setReady b = rest') : (answered c fail rest).setReady b = answered c fail' rest' := by
  subst hfail hrest
  exact apply_ite (State.setReady b) _ _ _

theorem setReady_issue {ws : List RegWrite} {k : Nat} {done : State → State} {s : State}
    (h : (done s).setReady b = done (s.setReady b)) :
    (issue ws k done s).setReady b = issue ws k done (s.setReady b) := by
  unfold issue
  split
  · rfl
  · exact h

theorem setReady_restOfWrites (ws : List RegWrite) (c : Ctx) (s : State) :
    (restOfWrites ws c s).setReady b = restOfWrites ws c (s.setReady b) :=
  setReady_answered b rfl (setReady_issue b rfl)

theorem setReady_setfreqRest (c : Ctx) (s : State) : (setfreqRest c s).setReady b = setfreqRest c (s.setReady b) := by
  unfold setfreqRest
  split
  case h_5 => rfl
  all_goals exact setReady_answered b rfl rfl

theorem setReady_coilSegment (pattern : CoilState) (h0 : c.pos ≠ 0) (s : State) :
    (coilSegment pattern c s).setReady b = coilSegment pattern c (s.setReady b) := by
  unfold coilSegment
  split
  next h => exact absurd h h0
  next => exact setReady_answered b rfl (setReady_issue b rfl)

theorem setReady_requestStop (s : State) : s.requestStop.setReady b = (s.setReady b).requestStop := by
  unfold State.requestStop
  exact apply_ite (State.setReady b) _ _ _

/-- The top of STEP's loop: its end and the next iteration leave `ready` alone (R180). -/
theorem setReady_loopTop (c : Ctx) (s : State) : (s.loopTop c).setReady b = (s.setReady b).loopTop c := by
  have hbegin : (s.beginIteration c).setReady b = (s.setReady b).beginIteration c := setReady_issue b rfl
  rcases Nat.lt_or_ge c.i c.count.toNat with h | h
  · cases hc : s.cancel with
    | false => rw [State.loopTop_more h hc, hbegin, State.loopTop_more h (s := s.setReady b) hc]
    | true =>
      rw [State.loopTop_cancelled h hc, State.loopTop_cancelled h (s := s.setReady b) hc]
      rfl
  · rw [State.loopTop_done h, State.loopTop_done h]
    rfl

theorem setReady_endIteration (c : Ctx) (t : Rat) (s : State) :
    (s.endIteration c t).setReady b = (s.setReady b).endIteration c t :=
  setReady_loopTop b _ _

theorem setReady_measure (c : Ctx) (s : State) : (s.measure c).setReady b = (s.setReady b).measure c := by
  unfold State.measure
  dsimp only
  split
  next h => exact (if_pos h).symm
  next h => exact (setReady_endIteration b c _ _).trans (if_neg h).symm

/-- A segment after the first does the same whatever `ready` is (R118), INIT apart, which may write it. -/
theorem setReady_restSegment {i : Instr} (h0 : c.pos ≠ 0) (hi : i ≠ .init) (s : State) :
    (restSegment c s i).setReady b = restSegment c (s.setReady b) i := by
  cases i
  case init => exact absurd rfl hi
  case wrch | wrall | setpin => exact setReady_restOfWrites b _ c s
  case setfreq => exact setReady_setfreqRest b c s
  case getfreq | swreset => exact setReady_answered b rfl rfl
  case setstr => exact setReady_answered b rfl (setReady_issue b rfl)
  case coils | idle => exact setReady_coilSegment b _ h0 s
  case step =>
    by_cases h : c.pos = 17
    · simp only [restSegment, if_pos h]
      exact setReady_endIteration b c _ _
    · simp only [restSegment, if_neg h]
      exact setReady_answered b rfl (setReady_issue b (setReady_measure b c s))
  case stop => exact congrArg (State.respond .ok .none) (setReady_requestStop b s)

/-- INIT writes `ready` in its first and last segments, whatever it was, and leaves it alone in the others (R22). -/
theorem initSegment_setReady (c : Ctx) (s : State) :
    initSegment c (s.setReady b) = initSegment c s ∨ initSegment c (s.setReady b) = (initSegment c s).setReady b := by
  unfold initSegment
  split
  case h_1 => exact .inl rfl
  case h_3 | h_6 => exact .inr rfl
  case h_2 | h_4 | h_5 =>
    refine .inr (Eq.symm ?_)
    exact setReady_answered b rfl rfl
  case h_7 =>
    by_cases ha : c.answer = .err
    · rw [answered_err ha, answered_err ha]
      exact .inr rfl
    · rw [answered_ok ha, answered_ok ha]
      rcases Nat.lt_or_ge c.pos initWrites.length with hk | hk
      · rw [issue_lt hk, issue_lt hk]
        exact .inr rfl
      · rw [issue_ge hk, issue_ge hk]
        exact .inl rfl

end

/-- Settles O37: `setReady` moves through every segment but a gated command's first and INIT's. -/
theorem readyIsCheckedOnlyAtAcceptance : Obligations.ReadyIsCheckedOnlyAtAcceptance := by
  have hrest {i : Instr} {s t : State} {c : Ctx} (b : Bool) (hc : s.ctx? = some c) (h0 : c.pos ≠ 0)
      (hi : i ≠ .init) (h : exec i s = .next t) : exec i (s.setReady b) = .next (t.setReady b) := by
    obtain rfl : restSegment c s i = t := by simpa [exec_rest hc h0] using h
    rw [setReady_restSegment b h0 hi, exec_rest (s := s.setReady b) hc h0]
  refine ⟨fun i s t c b hc h0 hi h => hrest b hc h0 hi h, fun i s t b hi h => ?_⟩
  obtain ⟨c, hc⟩ := exec_ctx h
  cases i
  case init =>
    obtain rfl : initSegment c s = t := by simpa [exec_init hc] using h
    rw [exec_init (s := s.setReady b) hc]
    exact (initSegment_setReady b c s).imp (congrArg _) (congrArg _)
  case swreset =>
    by_cases h0 : c.pos = 0
    · have hsend {u : State} (hu : u.ctx? = some c) :
          exec .swreset u = .next (u.busSend u.params.resetDev swrstByte) := by
        refine (onCtx_of_ctx hu _).trans ?_
        simp only [h0]
      obtain rfl := Host.Outcome.next.inj ((hsend hc).symm.trans h)
      exact .inr (hsend (u := s.setReady b) hc)
    · exact .inr (hrest b hc h0 nofun h)
  case stop =>
    obtain rfl := Host.Outcome.next.inj ((onCtx_of_ctx hc _).symm.trans h)
    refine .inr ((onCtx_of_ctx (s := s.setReady b) hc _).trans (congrArg Host.Outcome.next ?_))
    exact congrArg (State.respond .ok .none) (setReady_requestStop b s).symm
  all_goals cases hi

end Sys2Proof.Machine

namespace Sys2Proof.Machine

/-! ### A command run alone, segment by segment -/

/-- Command i has run k segments from s, alone: its context is at position k and as P says, and it has drawn from the
environment, read the clock and added events. -/
def Reached (i : Instr) (s : State) (k : Nat) (P : Ctx → Prop) (e : Env) (t : Rat) (es : List Event) : Prop :=
  ∃ c, c.pos = k ∧ P c ∧ runSegments i k s = .next (s.during c e t es)

section

variable {i : Instr} {s v : State} {k : Nat} {P P' : Ctx → Prop} {e e' : Env} {t t' : Rat} {es es' : List Event}

/-- Segment 1. -/
theorem Reached.one {c : Ctx} (hexec : exec i s = .next (s.during c e t es)) (hpos : c.pos = 1) (hP : P c) :
    Reached i s 1 P e t es :=
  ⟨c, hpos, hP, runSegments_succ (u := s) rfl hexec⟩

/-- One more segment. -/
theorem Reached.next (h : Reached i s k P e t es) (hcur : s.cur < s.ports.length) (hk : k ≠ 0)
    (hnext : ∀ c, c.pos = k → P c → ∃ c', c'.pos = k + 1 ∧ P' c' ∧
      restSegment c (s.during c e t es) i = s.during c' e' t' es') :
    Reached i s (k + 1) P' e' t' es' := by
  obtain ⟨c, hpos, hP, hrun⟩ := h
  obtain ⟨c', hpos', hP', hseg⟩ := hnext c hpos hP
  refine ⟨c', hpos', hP', runSegments_succ hrun ?_⟩
  rw [exec_rest (State.during_ctx? hcur) (hpos ▸ hk), hseg]

/-- The last segment. -/
theorem Reached.done (h : Reached i s k P e t es) (hcur : s.cur < s.ports.length) (hk : k ≠ 0)
    (hlast : ∀ c, c.pos = k → P c → restSegment c (s.during c e t es) i = v) : runSegments i (k + 1) s = .next v := by
  obtain ⟨c, hpos, hP, hrun⟩ := h
  refine runSegments_succ hrun ?_
  rw [exec_rest (State.during_ctx? hcur) (hpos ▸ hk), hlast c hpos hP]

end

/-- The context of a command's segment 1 written to, seen from the start of its run. -/
theorem State.modCtx_eq_during {s : State} {c : Ctx} (h : s.ctx? = some c) (f : Ctx → Ctx) :
    s.modCtx f = s.during (f c) s.env s.lastClock [] := by
  conv_lhs => rw [State.eq_during h]
  exact State.during_modCtx f

/-! ### The group commands run alone -/

namespace GroupCommand

variable {i : Instr} {b : Byte} {onTick offTick : Nat} {s : State} {c : Ctx} {acks : List Ack}

/-- A segment after the first that starts with `ok`: the next write, or the response. -/
theorem restSegment_eq (h : GroupCommand i b onTick offTick) (ha : c.answer = .ok) (s : State) :
    restSegment c s i = issue (groupWrites b onTick offTick) c.pos (State.respond .ok .none) s := by
  have hok : c.answer ≠ .err := by simp [ha]
  cases h <;> exact answered_ok hok _ _

/-- The states between the segments: k writes done. -/
theorem reached (h : GroupCommand i b onTick offTick) (hc : s.ctx? = some c) (hpos : c.pos = 0)
    (hready : s.ready = true) (hv : i.operandsValid = true) {k : Nat} (h1 : 1 ≤ k) (h4 : k ≤ 4)
    (hacks : s.env.acks = List.replicate k .ok ++ acks) :
    Reached i s k (fun c => c.answer = .ok) { s.env with acks := acks } s.lastClock
      (writeEvents s.cur s.params.dev ((groupWrites b onTick offTick).take k)) := by
  induction k, h1 using Nat.le_induction generalizing acks with
  | base =>
    obtain ⟨hnext, hdrop⟩ := Env.ack_cons (e := s.env) hacks
    have hwrite := State.busWrite_eq_during hc b (loByte onTick)
    rw [hnext, hdrop] at hwrite
    exact .one ((h.exec_write_first hc hpos hready hv).trans (congrArg _ hwrite)) (by simp [hpos]) rfl
  | succ k h1 ih =>
    have hk : k < (groupWrites b onTick offTick).length := h4
    refine (ih (acks := .ok :: acks) (by omega) (by simp [hacks, List.replicate_succ'])).next
      (State.cur_lt_of_ctx? hc) (by omega) fun c' hpos' ha => ⟨c'.tookAck .ok, by simp [hpos'], rfl, ?_⟩
    rw [h.restSegment_eq ha, hpos', issue_lt hk, State.during_busWrite, writeEvents_take_succ _ _ hk]
    rfl

/-- The whole run: four writes, then OK. -/
theorem run (h : GroupCommand i b onTick offTick) (hc : s.ctx? = some c) (hpos : c.pos = 0)
    (hready : s.ready = true) (hv : i.operandsValid = true)
    (hacks : s.env.acks = List.replicate 4 .ok ++ acks) :
    runSegments i 5 s = .next { s with
      env := { s.env with acks := acks }
      trace := s.trace ++
        (writeEvents s.cur s.params.dev (groupWrites b onTick offTick) ++ [.respond s.cur ⟨.ok, .none⟩])
      ports := s.ports.modify s.cur fun _ => ⟨false, none, some ⟨.ok, .none⟩⟩ } := by
  refine (h.reached hc hpos hready hv (by decide) le_rfl hacks).done (State.cur_lt_of_ctx? hc) (by decide)
    fun c' hpos' ha => ?_
  rw [h.restSegment_eq ha, hpos', issue_ge (le_of_eq (groupWrites_length ..))]
  exact State.during_respond _ _

end GroupCommand

/-- Settles O43: each of the four forms is a group command. -/
theorem groupCommandsWriteFourBytes : Obligations.GroupCommandsWriteFourBytes := by
  intro i base onTick offTick s c rest hc hpos hready hv hacks hi
  have h : GroupCommand i base onTick offTick := by
    obtain ⟨ch, on, off, rfl, rfl, rfl, rfl⟩ | ⟨on, off, rfl, rfl, rfl, rfl⟩ | ⟨ch, rfl, rfl, rfl, rfl⟩ |
      ⟨ch, rfl, rfl, rfl, rfl⟩ := hi
    · exact .wrch ch on off
    · exact .wrall on off
    · exact .pinOn ch
    · exact .pinOff ch
  rw [h.run hc hpos hready hv hacks]
  simp only [writeEvents, groupWrites, loByte_eq, hiByte_eq]
  rfl

/-! ### SETFREQ run alone -/

/-- What SETFREQ keeps in its context from its sleep-mode write on (R140). -/
structure SetfreqHolds (cmd : Option Instr) (p8 old : Byte) (c : Ctx) : Prop where
  cmd : c.cmd = cmd
  p8 : c.p8 = p8
  old : c.old = old

/-- The events of a SETFREQ of prescale p8 that succeeds, up to its response (R140). -/
def setfreqEvents (port : Nat) (dev : DevAddr) (p8 old : Byte) (t1 t2 : Rat) : List Event :=
  [.read port dev regMode1 (.ok old), .write port dev regMode1 (sleepByte old) .ok, .write port dev regPrescale p8 .ok,
    .write port dev regMode1 old .ok, .clock port t1, .wait port (t1 + 5), .clock port t2,
    .write port dev regMode1 (restartByte old) .ok]

/-- A SETFREQ at segment 1 whose checks pass, every transaction of which will be answered `ok`, with admissible clock
readings t1 and t2. -/
structure SetfreqRun (num : BitVec 32) (den : BitVec 24) (p : Nat) (s : State) (c : Ctx) (old : Byte) (t1 t2 : Rat)
    (acks : List Ack) (reads : List ReadAnswer) (clocks : List Rat) : Prop where
  ctx : s.ctx? = some c
  pos : c.pos = 0
  ready : s.ready = true
  positive : num ≠ 0
  prescale : prescaleOf ((num.toNat : Rat) / (den.toNat : Rat)) = p
  range : p ≤ 255
  acks : s.env.acks = List.replicate 4 .ok ++ acks
  reads : s.env.reads = .ok old :: reads
  clocks : s.env.clocks = t1 :: t2 :: clocks
  clock : 0 ≤ s.lastClock
  first : s.lastClock ≤ t1
  second : t1 + 5 ≤ t2

namespace SetfreqRun

variable {num : BitVec 32} {den : BitVec 24} {p : Nat} {s : State} {c : Ctx} {old : Byte} {t1 t2 : Rat}
  {acks : List Ack} {reads : List ReadAnswer} {clocks : List Rat}

/-- The environment with n of the four answers to writes still to come. -/
def envLeft (s : State) (n : Nat) (acks : List Ack) (reads : List ReadAnswer) (clocks : List Rat) : Env :=
  { s.env with acks := List.replicate n .ok ++ acks, reads := reads, clocks := clocks }

/-- The first n events of the run. -/
def events (s : State) (p : Nat) (old : Byte) (t1 t2 : Rat) (n : Nat) : List Event :=
  (setfreqEvents s.cur s.params.dev (BitVec.ofNat 8 p) old t1 t2).take n

/-- A write in between, answered `ok`. -/
theorem during_busWrite {c : Ctx} {n : Nat} {t : Rat} {es : List Event} (r v : Byte) :
    (s.during c (envLeft s (n + 1) acks reads clocks) t es).busWrite r v =
      s.during (c.tookAck .ok) (envLeft s n acks reads clocks) t (es ++ [.write s.cur s.params.dev r v .ok]) :=
  State.during_busWrite r v

variable (h : SetfreqRun num den p s c old t1 t2 acks reads clocks)

include h

theorem cur_lt : s.cur < s.ports.length := State.cur_lt_of_ctx? h.ctx

/-- The read of MODE1. -/
theorem reached_one : Reached (.setfreq num den) s 1
    (fun c' => c'.cmd = c.cmd ∧ c'.p8 = BitVec.ofNat 8 p ∧ c'.answer = .okByte old)
    (envLeft s 4 acks reads (t1 :: t2 :: clocks)) s.lastClock (events s p old t1 t2 1) := by
  have hp8 : BitVec.ofInt 8 (p : Int) = BitVec.ofNat 8 p := BitVec.ofInt_natCast ..
  have henv : envLeft s 4 acks reads (t1 :: t2 :: clocks) = { s.env with reads := reads } := by
    simp only [envLeft, ← h.acks, ← h.clocks]
  obtain ⟨hnext, hdrop⟩ := Env.read_cons h.reads
  refine .one (c := (c.keepP8 (BitVec.ofNat 8 p)).tookRead (.ok old)) ?_ (by simp [h.pos]) ⟨rfl, rfl, rfl⟩
  rw [exec_setfreq_first h.ctx h.pos h.ready h.positive h.prescale (by simp) (by exact_mod_cast h.range), hp8,
    State.modCtx_eq_during h.ctx, State.during_busRead, hnext, hdrop, henv]
  rfl

/-- The sleep-mode write. -/
theorem reached_two : Reached (.setfreq num den) s 2
    (fun c' => SetfreqHolds c.cmd (BitVec.ofNat 8 p) old c' ∧ c'.answer = .ok)
    (envLeft s 3 acks reads (t1 :: t2 :: clocks)) s.lastClock (events s p old t1 t2 2) := by
  refine h.reached_one.next h.cur_lt (by decide) fun c' hpos ⟨hcmd, hp8, ha⟩ =>
    ⟨(c'.keepOld old).tookAck .ok, by simp [hpos], ⟨⟨hcmd, hp8, rfl⟩, rfl⟩, ?_⟩
  rw [restSegment, setfreqRest_sleep hpos ha, State.during_modCtx, during_busWrite]
  rfl

/-- The prescale write. -/
theorem reached_three : Reached (.setfreq num den) s 3
    (fun c' => SetfreqHolds c.cmd (BitVec.ofNat 8 p) old c' ∧ c'.answer = .ok)
    (envLeft s 2 acks reads (t1 :: t2 :: clocks)) s.lastClock (events s p old t1 t2 3) := by
  refine h.reached_two.next h.cur_lt (by decide) fun c' hpos ⟨hold, ha⟩ =>
    ⟨c'.tookAck .ok, by simp [hpos], ⟨⟨hold.cmd, hold.p8, hold.old⟩, rfl⟩, ?_⟩
  rw [restSegment, setfreqRest_prescale hpos (by simp [ha]), during_busWrite, hold.p8]
  rfl

/-- The write that restores MODE1. -/
theorem reached_four : Reached (.setfreq num den) s 4
    (fun c' => SetfreqHolds c.cmd (BitVec.ofNat 8 p) old c' ∧ c'.answer = .ok)
    (envLeft s 1 acks reads (t1 :: t2 :: clocks)) s.lastClock (events s p old t1 t2 4) := by
  refine h.reached_three.next h.cur_lt (by decide) fun c' hpos ⟨hold, ha⟩ =>
    ⟨c'.tookAck .ok, by simp [hpos], ⟨⟨hold.cmd, hold.p8, hold.old⟩, rfl⟩, ?_⟩
  rw [restSegment, setfreqRest_restore hpos (by simp [ha]), during_busWrite, hold.old]
  rfl

/-- The wait. -/
theorem reached_five : Reached (.setfreq num den) s 5
    (fun c' => SetfreqHolds c.cmd (BitVec.ofNat 8 p) old c' ∧ c'.deadline = some (t1 + 5))
    (envLeft s 1 acks reads (t2 :: clocks)) t1 (events s p old t1 t2 6) := by
  refine h.reached_four.next h.cur_lt (by decide) fun c' hpos ⟨hold, ha⟩ =>
    ⟨c'.waiting (t1 + 5), by simp [hpos], ⟨⟨hold.cmd, hold.p8, hold.old⟩, rfl⟩, ?_⟩
  rw [restSegment, setfreqRest_wait hpos (by simp [ha])]
  exact State.during_waitFor rfl h.first (h.clock.trans h.first)

/-- The restart write. -/
theorem reached_six : Reached (.setfreq num den) s 6
    (fun c' => SetfreqHolds c.cmd (BitVec.ofNat 8 p) old c' ∧ c'.answer = .ok)
    (envLeft s 0 acks reads clocks) t2 (events s p old t1 t2 8) := by
  refine h.reached_five.next h.cur_lt (by decide) fun c' hpos ⟨hold, hdeadline⟩ =>
    ⟨c'.resumed.tookAck .ok, by simp [hpos], ⟨⟨hold.cmd, hold.p8, hold.old⟩, rfl⟩, ?_⟩
  have hle : t1 ≤ t2 := by linarith [h.second]
  rw [restSegment, setfreqRest_restart hpos,
    State.during_resume hdeadline rfl h.second hle ((h.clock.trans h.first).trans hle), hold.old]
  exact during_busWrite _ _

/-- The whole run (R140). -/
theorem run : runSegments (.setfreq num den) 7 s = .next { s with
    lastClock := t2
    env := { s.env with acks := acks, reads := reads, clocks := clocks }
    trace := s.trace ++ (setfreqEvents s.cur s.params.dev (BitVec.ofNat 8 p) old t1 t2 ++
      [.respond s.cur ⟨.ok, .prescale (BitVec.ofNat 8 p)⟩])
    ports := s.ports.modify s.cur fun _ => ⟨false, none, some ⟨.ok, .prescale (BitVec.ofNat 8 p)⟩⟩ } := by
  refine h.reached_six.done h.cur_lt (by decide) fun c' hpos ⟨hold, ha⟩ => ?_
  rw [restSegment, setfreqRest_last hpos (by simp [ha]), hold.p8]
  exact State.during_respond _ _

end SetfreqRun

/-- Settles O45: the states of `Reached` after each segment, and the response of the last. -/
theorem setfreqRunsTheSequence : Obligations.SetfreqRunsTheSequence := by
  intro num den p s c old t1 t2 acks reads clocks hc hpos hready hnum hp h255 hacks hreads hclocks h0 h1 h2
  exact (SetfreqRun.mk hc hpos hready hnum hp h255 hacks hreads hclocks h0 h1 h2).run

end Sys2Proof.Machine

namespace Sys2Proof.Machine

/-! ### What a run's events say of the chip -/

/-- The chip after register writes answered `ok`. -/
def Chip.afterWrites (k : Chip) (ws : List RegWrite) : Chip :=
  ws.foldl (fun k w => k.put w.reg.toNat (some w.val)) k

theorem Chip.learn_write (p : Params) (k : Chip) (port : Nat) (r v : Byte) :
    k.learn p (.write port p.dev r v .ok) = k.put r.toNat (some v) :=
  if_pos rfl

theorem Chip.ofTrace_writeEvents (p : Params) (k : Chip) (port : Nat) (ws : List RegWrite) :
    Chip.ofTrace p k (writeEvents port p.dev ws) = k.afterWrites ws := by
  rw [Chip.ofTrace, writeEvents, List.foldl_map, Chip.afterWrites]
  simp only [Chip.learn_write]

/-- What a later state's trace says of the chip, from what was known before. -/
theorem State.chip_of_trace {s t : State} {es : List Event} (hp : t.params = s.params) (ht : t.trace = s.trace ++ es) :
    t.chip = Chip.ofTrace s.params s.chip es := by
  rw [State.chip, hp, ht, Chip.ofTrace_append]
  rfl

/-- The chip after a group command that ran alone (log 17). -/
theorem GroupCommand.run_chip {i : Instr} {b : Byte} {onTick offTick : Nat} {s : State} {c : Ctx} {acks : List Ack}
    (h : GroupCommand i b onTick offTick) (hc : s.ctx? = some c) (hpos : c.pos = 0) (hready : s.ready = true)
    (hv : i.operandsValid = true) (hacks : s.env.acks = List.replicate 4 .ok ++ acks) :
    ∃ t, runSegments i 5 s = .next t ∧ t.chip = s.chip.afterWrites (groupWrites b onTick offTick) := by
  refine ⟨_, h.run hc hpos hready hv hacks, ?_⟩
  refine Eq.trans (State.chip_of_trace (s := s) rfl rfl) ?_
  rw [Chip.ofTrace_append, Chip.ofTrace_writeEvents]
  rfl

/-! ### A broadcast (R223) -/

section

variable {k : Chip} {n j : Nat} {m : Memory}

/-- A byte of the broadcast group reaches every channel's register at its offset, and no other. -/
theorem read_driveAll_channel (hm : m.wf) (hn : n < 16) {offset : Nat} (ho : offset < 4) (hj : j < 4)
    (v : Option Byte) :
    (driveAll m offset v).read (0x06 + 4 * n + j) = if j = offset then v else m.read (0x06 + 4 * n + j) := by
  rw [read_driveAll hm]
  by_cases h : j = offset
  · subst h
    exact (if_pos ⟨n, hn, rfl⟩).trans (if_pos rfl).symm
  · rw [if_neg h, if_neg]
    rintro ⟨n', -, he⟩
    omega

/-- A channel's four registers as R52 numbers them. -/
theorem channelReg_offsets (n : Nat) :
    0x07 + 4 * n = 0x06 + 4 * n + 1 ∧ 0x08 + 4 * n = 0x06 + 4 * n + 2 ∧ 0x09 + 4 * n = 0x06 + 4 * n + 3 := by
  omega

/-- The four bytes of a channel's group as a tick pair (R40). -/
theorem tickPair_eq {onTick offTick : Nat} (hon : onTick ≤ 4096) (hoff : offTick ≤ 4096)
    (h0 : m.read (0x06 + 4 * n) = some (loByte onTick)) (h1 : m.read (0x06 + 4 * n + 1) = some (hiByte onTick))
    (h2 : m.read (0x06 + 4 * n + 2) = some (loByte offTick))
    (h3 : m.read (0x06 + 4 * n + 3) = some (hiByte offTick)) : tickPair m n = some (onTick, offTick) := by
  obtain ⟨e1, e2, e3⟩ := channelReg_offsets n
  simp only [tickPair, e1, e2, e3, h0, h1, h2, h3, tickOf_tickBytes hon, tickOf_tickBytes hoff]

/-- Two images that agree on a channel's four bytes hold the same pair there. -/
theorem tickPair_congr {m' : Memory} (h : ∀ j < 4, m'.read (0x06 + 4 * n + j) = m.read (0x06 + 4 * n + j)) :
    tickPair m' n = tickPair m n := by
  obtain ⟨e1, e2, e3⟩ := channelReg_offsets n
  have h0 : m'.read (0x06 + 4 * n) = m.read (0x06 + 4 * n) := h 0 (by decide)
  simp only [tickPair, e1, e2, e3, h0, h 1 (by decide), h 2 (by decide), h 3 (by decide)]

theorem tickPair_unknown (h : m.read (0x06 + 4 * n) = none) : tickPair m n = none := by
  simp only [tickPair, h]

/-- The four bytes of a broadcast pair put in effect, one after the other. -/
def driveGroup (m : Memory) (onTick offTick : Nat) : Memory :=
  driveAll (driveAll (driveAll (driveAll m 0 (some (loByte onTick))) 1 (some (hiByte onTick))) 2
    (some (loByte offTick))) 3 (some (hiByte offTick))

theorem read_driveGroup (hm : m.wf) (hn : n < 16) (hj : j < 4) (onTick offTick : Nat) :
    (driveGroup m onTick offTick).read (0x06 + 4 * n + j) =
      if j = 3 then some (hiByte offTick) else if j = 2 then some (loByte offTick)
      else if j = 1 then some (hiByte onTick) else if j = 0 then some (loByte onTick)
      else m.read (0x06 + 4 * n + j) := by
  have h1 := driveAll_wf hm 0 (some (loByte onTick))
  have h2 := driveAll_wf h1 1 (some (hiByte onTick))
  have h3 := driveAll_wf h2 2 (some (loByte offTick))
  rw [driveGroup, read_driveAll_channel h3 hn (by decide) hj, read_driveAll_channel h2 hn (by decide) hj,
    read_driveAll_channel h1 hn (by decide) hj, read_driveAll_channel hm hn (by decide) hj]

/-- After a broadcast's four bytes every channel holds its pair. -/
theorem tickPair_driveGroup (hm : m.wf) (hn : n < 16) {onTick offTick : Nat} (hon : onTick ≤ 4096)
    (hoff : offTick ≤ 4096) : tickPair (driveGroup m onTick offTick) n = some (onTick, offTick) :=
  have hread {j : Nat} (hj : j < 4) := read_driveGroup hm hn hj onTick offTick
  tickPair_eq hon hoff (hread (j := 0) (by decide)) (hread (by decide)) (hread (by decide)) (hread (by decide))

theorem Chip.put_broadcastReg {a : Nat} (h : isBroadcastReg a = true) (k : Chip) (v : Option Byte) :
    k.put a v = k.putBroadcast a v :=
  if_pos h

/-- The bytes that a broadcast puts in effect (R53, R223). -/
theorem Chip.afterWrites_allBase (k : Chip) (onTick offTick : Nat) :
    (k.afterWrites (groupWrites allBase onTick offTick)).drive = driveGroup k.drive onTick offTick ∧
      (k.afterWrites (groupWrites allBase onTick offTick)).broadcast = driveGroup k.broadcast onTick offTick := by
  simp only [Chip.afterWrites, groupWrites, List.foldl_cons, List.foldl_nil]
  rw [Chip.put_broadcastReg (by decide), Chip.put_broadcastReg (by decide), Chip.put_broadcastReg (by decide),
    Chip.put_broadcastReg (by decide)]
  simp only [Chip.putBroadcast, show allBase.toNat - 0xFA = 0 from rfl, show (allBase + 1).toNat - 0xFA = 1 from rfl,
    show (allBase + 2).toNat - 0xFA = 2 from rfl, show (allBase + 3).toNat - 0xFA = 3 from rfl, driveGroup, and_self]

/-- A broadcast drives every channel, and (0, 0) forces it low (R223). -/
theorem Chip.channel_afterBroadcast (hk : k.wf) (hn : n < 16) {onTick offTick : Nat} (hon : onTick ≤ 4095)
    (hoff : offTick ≤ 4095) : (k.afterWrites (groupWrites allBase onTick offTick)).channel n =
      if onTick = 0 ∧ offTick = 0 then .forcedLow else .ticks onTick offTick := by
  obtain ⟨-, hdrive, hbroadcast⟩ := hk
  obtain ⟨edrive, ebroadcast⟩ := k.afterWrites_allBase onTick offTick
  rw [Chip.channel, edrive, ebroadcast, tickPair_driveGroup hdrive hn (by omega) (by omega),
    tickPair_driveGroup hbroadcast hn (by omega) (by omega)]
  simp only [Option.some.injEq, Prod.mk.injEq, Drive.ofPair_ticks (show onTick ≤ tickMax from hon) hoff]

/-! ### A per-channel write (R223) -/

/-- A register of a channel's group takes its byte (R52). -/
theorem Chip.put_channelReg {a : Nat} (h6 : 6 ≤ a) (h69 : a ≤ 69) (k : Chip) (v : Option Byte) :
    k.put (BitVec.ofNat 8 a).toNat v = k.putChannel a v := by
  have ha : (BitVec.ofNat 8 a).toNat = a := Nat.mod_eq_of_lt (by omega)
  have hb : ¬ isBroadcastReg a = true := by simp only [isBroadcastReg, Bool.and_eq_true, decide_eq_true_eq]; omega
  have hc : isChannelReg a = true := by simp only [isChannelReg, Bool.and_eq_true, decide_eq_true_eq]; omega
  rw [ha, Chip.put, if_neg hb, if_pos hc]

/-- Four updates from address a on, one after the other. -/
def updateGroup (m : Memory) (a : Nat) (v0 v1 v2 v3 : Option Byte) : Memory :=
  (((m.update a v0).update (a + 1) v1).update (a + 2) v2).update (a + 3) v3

theorem read_updateGroup (hm : m.wf) (a x : Nat) (v0 v1 v2 v3 : Option Byte) :
    (updateGroup m a v0 v1 v2 v3).read x =
      if x = a + 3 then v3 else if x = a + 2 then v2 else if x = a + 1 then v1 else if x = a then v0
      else m.read x := by
  have h1 := Memory.wf_update hm a v0
  have h2 := Memory.wf_update h1 (a + 1) v1
  have h3 := Memory.wf_update h2 (a + 2) v2
  rw [updateGroup, Memory.read_update _ _ _ _ h3, Memory.read_update _ _ _ _ h2, Memory.read_update _ _ _ _ h1,
    Memory.read_update _ _ _ _ hm]

/-- An update of one channel's group leaves the pairs of the others. -/
theorem tickPair_updateGroup_other {n' : Nat} (hm : m.wf) (hne : n' ≠ n) (v0 v1 v2 v3 : Option Byte) :
    tickPair (updateGroup m (0x06 + 4 * n) v0 v1 v2 v3) n' = tickPair m n' := by
  refine tickPair_congr fun j hj => ?_
  rw [read_updateGroup hm, if_neg (by omega), if_neg (by omega), if_neg (by omega), if_neg (by omega)]

/-- What four writes to channel n's group put in effect, and which bytes they take from a broadcast. -/
theorem Chip.afterWrites_chanBase (hn : n < 16) (k : Chip) (onTick offTick : Nat) :
    (k.afterWrites (groupWrites (chanBase n) onTick offTick)).drive =
        updateGroup k.drive (0x06 + 4 * n) (some (loByte onTick)) (some (hiByte onTick)) (some (loByte offTick))
          (some (hiByte offTick)) ∧
      (k.afterWrites (groupWrites (chanBase n) onTick offTick)).broadcast =
        updateGroup k.broadcast (0x06 + 4 * n) none none none none := by
  rw [groupWrites_chanBase]
  simp only [Chip.afterWrites, List.foldl_cons, List.foldl_nil]
  rw [Chip.put_channelReg (by omega) (by omega), Chip.put_channelReg (by omega) (by omega),
    Chip.put_channelReg (by omega) (by omega), Chip.put_channelReg (by omega) (by omega)]
  exact ⟨rfl, rfl⟩

/-- A per-channel write drives its channel (R223). -/
theorem Chip.channel_afterChannelWrite (hk : k.wf) (hn : n < 16) {onTick offTick : Nat} (hon : onTick ≤ 4095)
    (hoff : offTick ≤ 4095) :
    (k.afterWrites (groupWrites (chanBase n) onTick offTick)).channel n = .ticks onTick offTick := by
  obtain ⟨-, hdrive, hbroadcast⟩ := hk
  obtain ⟨edrive, ebroadcast⟩ := k.afterWrites_chanBase hn onTick offTick
  have hown : tickPair (k.afterWrites (groupWrites (chanBase n) onTick offTick)).broadcast n = none := by
    refine tickPair_unknown ?_
    rw [ebroadcast, read_updateGroup hbroadcast]
    simp
  have hpair : tickPair (k.afterWrites (groupWrites (chanBase n) onTick offTick)).drive n =
      some (onTick, offTick) := by
    rw [edrive]
    refine tickPair_eq (by omega) (by omega) ?_ ?_ ?_ ?_ <;> rw [read_updateGroup hdrive] <;> simp
  rw [Chip.channel, hown, hpair, if_neg nofun]
  exact Drive.ofPair_ticks hon hoff

/-- A per-channel write leaves the other channels as they were (R223). -/
theorem Chip.channel_afterChannelWrite_other {n' : Nat} (hk : k.wf) (hn : n < 16) (hne : n' ≠ n)
    (onTick offTick : Nat) :
    (k.afterWrites (groupWrites (chanBase n) onTick offTick)).channel n' = k.channel n' := by
  obtain ⟨-, hdrive, hbroadcast⟩ := hk
  obtain ⟨edrive, ebroadcast⟩ := k.afterWrites_chanBase hn onTick offTick
  rw [Chip.channel, Chip.channel, edrive, ebroadcast, tickPair_updateGroup_other hdrive hne,
    tickPair_updateGroup_other hbroadcast hne]

end

/-- Settles O59: the chip after either command's four writes. -/
theorem broadcastsOverrideUntilAChannelIsWritten : Obligations.BroadcastsOverrideUntilAChannelIsWritten := by
  refine ⟨fun onTick offTick s c acks hc hpos hready hon hoff hacks => ?broadcast,
    fun ch onTick offTick s c acks hc hpos hready hch hon hoff hacks => ?channel⟩
  case broadcast =>
    obtain ⟨t, hrun, hchip⟩ := (GroupCommand.wrall onTick offTick).run_chip hc hpos hready
      ((wrall_operandsValid ..).2 ⟨hon, hoff⟩) hacks
    refine ⟨t, hrun, fun n hn => ?_⟩
    rw [hchip, Chip.channel_afterBroadcast s.chip_wf hn hon hoff]
    have hzero (v : BitVec 16) : v.toNat = 0 ↔ v = 0 := BitVec.toNat_inj (y := 0)
    simp only [hzero]
  case channel =>
    obtain ⟨t, hrun, hchip⟩ := (GroupCommand.wrch ch onTick offTick).run_chip hc hpos hready
      ((wrch_operandsValid ..).2 ⟨hch, hon, hoff⟩) hacks
    refine ⟨t, hrun, ?_, fun n hn hne => ?_⟩
    · rw [hchip, Chip.channel_afterChannelWrite s.chip_wf hch hon hoff]
    · rw [hchip, Chip.channel_afterChannelWrite_other s.chip_wf hch hne]

end Sys2Proof.Machine

namespace Sys2Proof.Machine

/-! ### The oscillator and the prescale during a SETFREQ (R224, R259) -/

theorem Oscillator.afterWrite_sleep {m : Byte} (h : m &&& maskSleep ≠ 0) (o : Oscillator) :
    o.afterWrite m = .stopped :=
  if_pos (bne_iff_ne.2 h)

/-- SLEEP cleared on a stopped oscillator releases it. -/
theorem Oscillator.afterWrite_release {m : Byte} (h : m &&& maskSleep = 0) :
    Oscillator.stopped.afterWrite m = .released none false :=
  if_neg (by simp [h])

/-- RESTART written once the oscillator has had its time resumes it. -/
theorem Oscillator.afterWrite_restart {m : Byte} {since : Option Rat} (h : m &&& maskSleep = 0)
    (hr : m &&& maskRestart ≠ 0) : (Oscillator.released since true).afterWrite m = .running := by
  simp only [Oscillator.afterWrite, h, bne_self_eq_false, Bool.false_eq_true, if_false, if_neg hr, if_true]

/-- The sleep byte sets SLEEP; the restart byte sets RESTART and leaves SLEEP (R116). -/
theorem sleepByte_sleeps (x : Byte) : sleepByte x &&& maskSleep ≠ 0 := by
  revert x
  decide

theorem restartByte_masks (x : Byte) :
    restartByte x &&& maskSleep = x &&& maskSleep ∧ restartByte x &&& maskRestart ≠ 0 := by
  revert x
  decide

section

variable (p : Params) (k : Chip) (port : Nat) (v : Byte)

/-- What an event of SETFREQ's says of the oscillator. -/
theorem Chip.learn_mode1_osc : (k.learn p (.write port p.dev regMode1 v .ok)).osc = k.osc.afterWrite v := by
  rw [Chip.learn_write]
  rfl

theorem Chip.learn_prescale_osc : (k.learn p (.write port p.dev regPrescale v .ok)).osc = k.osc := by
  rw [Chip.learn_write]
  rfl

/-- A write of MODE1 leaves PRESCALE, and so the output frequency, as it was. -/
theorem Chip.learn_mode1_freq (hk : k.wf) : (k.learn p (.write port p.dev regMode1 v .ok)).freq = k.freq := by
  obtain ⟨hregs, -, -⟩ := hk
  rw [Chip.learn_write]
  have hread := Memory.read_update k.regs regMode1.toNat regPrescale.toNat (some v) hregs
  rw [if_neg (by decide)] at hread
  exact congrArg (Option.map freqOf) hread

/-- A write of PRESCALE while SLEEP is set: the frequency is known where the byte is at least 3 (log 24). -/
theorem Chip.learn_prescale_freq (hk : k.wf) (hosc : k.osc = .stopped) :
    (k.learn p (.write port p.dev regPrescale v .ok)).freq = if v.toNat < 3 then none else some (freqOf v) := by
  obtain ⟨hregs, -, -⟩ := hk
  have hput : k.put regPrescale.toNat (some v) = k.putPrescale (some v) := rfl
  rw [Chip.learn_write, hput, Chip.freq, Chip.putPrescale, if_pos hosc, Memory.read_update _ _ _ _ hregs, if_pos rfl,
    Option.filter_some]
  rcases Nat.lt_or_ge v.toNat 3 with h | h
  · simp [h]
  · simp [h, h.not_gt]

end

/-- The oscillator is stopped, or released and not yet resumed. -/
def Oscillator.Resting (o : Oscillator) : Prop := o = .stopped ∨ ∃ since waited, o = .released since waited

theorem Oscillator.Resting.afterClock {o : Oscillator} (h : o.Resting) (t : Rat) : (o.afterClock t).Resting := by
  obtain rfl | ⟨since, waited, rfl⟩ := h
  · exact .inl rfl
  · cases since with
    | none => exact .inr ⟨_, _, rfl⟩
    | some t0 => exact .inr ⟨_, _, rfl⟩

theorem Oscillator.resting_afterWrite (m : Byte) : (Oscillator.stopped.afterWrite m).Resting := by
  by_cases h : m &&& maskSleep = 0
  · exact .inr ⟨_, _, afterWrite_release h⟩
  · exact .inl (afterWrite_sleep h _)

section

variable (p : Params) (k : Chip) (port : Nat) (p8 old : Byte) (t1 t2 : Rat)

/-- What the first n events of a SETFREQ say of the chip. -/
def Chip.inSetfreq (n : Nat) : Chip := Chip.ofTrace p k ((setfreqEvents port p.dev p8 old t1 t2).take n)

theorem Chip.inSetfreq_wf (hk : k.wf) (n : Nat) : (k.inSetfreq p port p8 old t1 t2 n).wf := Chip.ofTrace_wf _ _ hk

/-- After the sleep-mode write. -/
theorem Chip.inSetfreq_two_osc : (k.inSetfreq p port p8 old t1 t2 2).osc = .stopped :=
  (Chip.learn_mode1_osc p _ port _).trans (Oscillator.afterWrite_sleep (sleepByte_sleeps old) _)

/-- After the prescale write. -/
theorem Chip.inSetfreq_three_osc : (k.inSetfreq p port p8 old t1 t2 3).osc = .stopped :=
  (Chip.learn_prescale_osc p _ port _).trans (k.inSetfreq_two_osc p port p8 old t1 t2)

/-- After the write that restores MODE1. -/
theorem Chip.inSetfreq_four_osc : (k.inSetfreq p port p8 old t1 t2 4).osc = Oscillator.stopped.afterWrite old :=
  (Chip.learn_mode1_osc p _ port _).trans (congrArg _ (k.inSetfreq_three_osc p port p8 old t1 t2))

/-- After the wait. -/
theorem Chip.inSetfreq_six_osc :
    (k.inSetfreq p port p8 old t1 t2 6).osc = (Oscillator.stopped.afterWrite old).afterClock t1 :=
  congrArg (Oscillator.afterClock t1) (k.inSetfreq_four_osc p port p8 old t1 t2)

/-- After the restart write, 5 ms or more after the restore: it resumes the oscillator, unless SLEEP was set. -/
theorem Chip.inSetfreq_eight_osc (h : t1 + 5 ≤ t2) :
    (k.inSetfreq p port p8 old t1 t2 8).osc = if old &&& maskSleep = 0 then .running else .stopped := by
  obtain ⟨hsleep, hrestart⟩ := restartByte_masks old
  refine (Chip.learn_mode1_osc p _ port _).trans ?_
  have hseven : (k.inSetfreq p port p8 old t1 t2 7).osc =
      ((Oscillator.stopped.afterWrite old).afterClock t1).afterClock t2 :=
    congrArg (Oscillator.afterClock t2) (k.inSetfreq_six_osc p port p8 old t1 t2)
  refine (congrArg (Oscillator.afterWrite (restartByte old)) hseven).trans ?_
  split
  next hold =>
    have hwaited : waitMs ≤ t2 - t1 := le_sub_iff_add_le'.2 h
    rw [Oscillator.afterWrite_release hold]
    simp only [Oscillator.afterClock, hwaited, decide_true, Bool.or_true]
    exact Oscillator.afterWrite_restart (hsleep.trans hold) hrestart
  next hold => exact Oscillator.afterWrite_sleep (hsleep.trans_ne hold) _

/-- The frequency after the whole sequence: the one of the prescale byte, where that is 3 or more. -/
theorem Chip.inSetfreq_eight_freq (hk : k.wf) :
    (k.inSetfreq p port p8 old t1 t2 8).freq = if p8.toNat < 3 then none else some (freqOf p8) := by
  have hwf := k.inSetfreq_wf p port p8 old t1 t2 hk
  calc (k.inSetfreq p port p8 old t1 t2 8).freq
      = (k.inSetfreq p port p8 old t1 t2 7).freq := Chip.learn_mode1_freq p _ port _ (hwf 7)
    _ = (k.inSetfreq p port p8 old t1 t2 4).freq := rfl
    _ = (k.inSetfreq p port p8 old t1 t2 3).freq := Chip.learn_mode1_freq p _ port _ (hwf 3)
    _ = if p8.toNat < 3 then none else some (freqOf p8) :=
      Chip.learn_prescale_freq p _ port _ (hwf 2) (k.inSetfreq_two_osc p port p8 old t1 t2)

end

/-! ### The chip asleep while a SETFREQ is in flight (R259) -/

theorem State.setfreqAsleep_of_ctx? {u : State} {c : Ctx} {num : BitVec 32} {den : BitVec 24} (hc : u.ctx? = some c)
    (hcmd : c.cmd = some (.setfreq num den)) (h2 : 2 ≤ c.pos) (h5 : c.pos ≤ 5) : u.setfreqAsleep = true := by
  obtain ⟨q, hq, hctx⟩ := State.port_of_ctxAt hc
  refine List.any_eq_true.2 ⟨q, List.mem_of_getElem? hq, ?_⟩
  simp [hctx, Ctx.betweenSleepAndRestart, hcmd, h2, h5]

theorem State.chipAsleep_of_resting {u : State} (hf : u.setfreqAsleep = true) (ho : u.chip.osc.Resting) :
    u.chipAsleep = some true := by
  obtain ho | ⟨since, waited, ho⟩ := ho <;> simp [State.chipAsleep, ho, hf]

namespace SetfreqRun

variable {num : BitVec 32} {den : BitVec 24} {p : Nat} {s : State} {c : Ctx} {old : Byte} {t1 t2 : Rat}

/-- Between its sleep-mode write and its restart write SETFREQ has put the chip to sleep. -/
theorem asleep {k n : Nat} {Q : Ctx → Prop} {e : Env} {t : Rat}
    (hr : Reached (.setfreq num den) s k (fun c' => SetfreqHolds c.cmd (BitVec.ofNat 8 p) old c' ∧ Q c') e t
      (events s p old t1 t2 n))
    (hcur : s.cur < s.ports.length) (hcmd : c.cmd = some (.setfreq num den)) (h2 : 2 ≤ k) (h5 : k ≤ 5)
    (ho : (s.chip.inSetfreq s.params s.cur (BitVec.ofNat 8 p) old t1 t2 n).osc.Resting) :
    ∃ u, runSegments (.setfreq num den) k s = .next u ∧ u.chipAsleep = some true := by
  obtain ⟨c', rfl, ⟨hold, -⟩, hrun⟩ := hr
  have hchip : (s.during c' e t (events s p old t1 t2 n)).chip =
      s.chip.inSetfreq s.params s.cur (BitVec.ofNat 8 p) old t1 t2 n := State.chip_of_trace rfl rfl
  exact ⟨_, hrun, State.chipAsleep_of_resting
    (State.setfreqAsleep_of_ctx? (State.during_ctx? hcur) (hold.cmd.trans hcmd) h2 h5) (hchip ▸ ho)⟩

/-- The chip after the whole run: the response adds nothing. -/
theorem run_chip {acks : List Ack} {reads : List ReadAnswer} {clocks : List Rat}
    (h : SetfreqRun num den p s c old t1 t2 acks reads clocks) :
    ∃ t, runSegments (.setfreq num den) 7 s = .next t ∧
      t.chip = s.chip.inSetfreq s.params s.cur (BitVec.ofNat 8 p) old t1 t2 8 := by
  refine ⟨_, h.run, Eq.trans (State.chip_of_trace (s := s) rfl rfl) ?_⟩
  rw [Chip.ofTrace_append]
  rfl

end SetfreqRun

/-- Settles O60: the oscillator after each of segments 2 to 5, and the chip after the last. -/
theorem setfreqSleepsUntilItsRestart : Obligations.SetfreqSleepsUntilItsRestart := by
  intro num den p s c old t1 t2 acks reads clocks hc hcmd hpos hready hnum hp h255 hacks hreads hclocks h0 h1 h2
  have h := SetfreqRun.mk hc hpos hready hnum hp h255 hacks hreads hclocks h0 h1 h2
  obtain ⟨t, hrun, hchip⟩ := h.run_chip
  refine ⟨fun k hk2 hk5 => ?asleep, t, hrun, ?freq, ?osc⟩
  case asleep =>
    interval_cases k
    · exact SetfreqRun.asleep h.reached_two h.cur_lt hcmd hk2 hk5 (.inl (Chip.inSetfreq_two_osc ..))
    · exact SetfreqRun.asleep h.reached_three h.cur_lt hcmd hk2 hk5 (.inl (Chip.inSetfreq_three_osc ..))
    · refine SetfreqRun.asleep h.reached_four h.cur_lt hcmd hk2 hk5 ?_
      rw [Chip.inSetfreq_four_osc]
      exact Oscillator.resting_afterWrite old
    · refine SetfreqRun.asleep h.reached_five h.cur_lt hcmd hk2 hk5 ?_
      rw [Chip.inSetfreq_six_osc]
      exact (Oscillator.resting_afterWrite old).afterClock t1
  case freq =>
    have hp8 : (BitVec.ofNat 8 p).toNat = p := Nat.mod_eq_of_lt (by omega)
    rw [hchip, Chip.inSetfreq_eight_freq _ _ _ _ _ _ _ s.chip_wf, hp8]
  case osc =>
    rw [hchip, Chip.inSetfreq_eight_osc _ _ _ _ _ _ _ h2]
    rfl

end Sys2Proof.Machine

/-! PROOFS. The statements of 41_sequencer.md: the duty and the step index (R160, R161), that every STEP reports a long
enough duration (R181), the segments of the sequencer's commands (R165 to R185), whole runs of SETSTR, COILS, IDLE and
STEP, and the coil pins after IDLE (R175). -/

namespace Sys2Proof.Machine

/-! ### The duty and the step index (R160, R161, R192) -/

theorem dutyOf_eq (fr : Rat) : dutyOf fr = ⌊fr * 4095⌋ := rfl

/-- Settles O21: the floor's bounds, and its range [0, 4095] read off the fraction. -/
theorem dutyIsTheFloor : Obligations.DutyIsTheFloor := by
  intro fr
  rw [dutyOf_eq]
  refine ⟨⟨Int.floor_le _, Int.lt_floor_add_one _⟩, ?_⟩
  have hlow : 0 ≤ ⌊fr * 4095⌋ ↔ 0 ≤ fr := by
    rw [Int.floor_nonneg]
    exact mul_nonneg_iff_of_pos_right (by norm_num)
  have hhigh : ⌊fr * 4095⌋ ≤ 4095 ↔ fr < 4096 / 4095 := by
    rw [← Int.lt_add_one_iff, Int.floor_lt, lt_div_iff₀ (by norm_num)]
    norm_num
  rw [validTick_iff, hlow, hhigh]

theorem nextIndex_forward_val (i : Fin 4) : (nextIndex i .forward).val = (i.val + 1) % 4 := rfl

/-- A step backward is three steps forward (R161). -/
theorem nextIndex_backward_val (i : Fin 4) : (nextIndex i .backward).val = (i.val + 3) % 4 := by
  revert i
  decide

/-- Settles O22: one more step adds 1 or 3. -/
theorem stepIndexAdvancesModFour : Obligations.StepIndexAdvancesModFour := by
  intro i k
  induction k with
  | zero => exact ⟨(Nat.mod_eq_of_lt i.isLt).symm, (Nat.mod_eq_of_lt i.isLt).symm⟩
  | succ k ih =>
    obtain ⟨hforward, hbackward⟩ := ih
    rw [Function.iterate_succ_apply', Function.iterate_succ_apply', nextIndex_forward_val, nextIndex_backward_val,
      hforward, hbackward]
    omega

end Sys2Proof.Machine

namespace Sys2Proof.Machine

/-! ### The duration of a STEP (R181) -/

/-- Where the event is an OK response of STEP, it reports at least its steps times the interval (R181). -/
def Event.reportsAtLeast (interval : Rat) : Event → Prop
  | .respond _ r =>
    match r.data with
    | .stepped steps _ duration _ => r.status = .ok → steps.toNat * interval ≤ duration
    | _ => True
  | _ => True

/-- The last event of the trace is no report of a duration that is too short. -/
def State.LastReportTimed (t : State) : Prop :=
  ∃ tr e, t.trace = tr ++ [e] ∧ e.reportsAtLeast t.params.interval

theorem Closing.run_params (a : Closing) (s : State) : (a.run s).params = s.params := by cases a <;> simp [run]

namespace State.LastReportTimed

/-- The last event is that of the closing action (R71). -/
theorem of_closing (a : Closing) {u : State} (h : (a.event u).reportsAtLeast u.params.interval) :
    (a.run u).LastReportTimed :=
  ⟨u.trace, a.event u, a.run_trace u, a.run_params u ▸ h⟩

theorem busWrite (r v : Byte) (u : State) : (u.busWrite r v).LastReportTimed := of_closing (.write r v) trivial

theorem busRead (r : Byte) (u : State) : (u.busRead r).LastReportTimed := of_closing (.read r) trivial

theorem waitUntil (d : Rat) (u : State) : (u.waitUntil d).LastReportTimed := of_closing (.wait d) trivial

theorem fault (r : FaultReason) (u : State) : (u.fault r).LastReportTimed := of_closing (.fault r) trivial

/-- A response without STEP's data. -/
theorem respond (status : Status) {data : RespData} (u : State)
    (h : ∀ interval, (Event.respond u.cur ⟨status, data⟩).reportsAtLeast interval) :
    (u.respond status data).LastReportTimed :=
  of_closing (.respond status data) (h _)

/-- A failure or a refusal without data. -/
theorem respond_none (status : Status) (u : State) : (u.respond status .none).LastReportTimed :=
  respond status u fun _ => trivial

theorem answered {c : Ctx} {fail rest : State} (hfail : fail.LastReportTimed) (hrest : rest.LastReportTimed) :
    (answered c fail rest).LastReportTimed := by
  unfold Machine.answered
  split
  · exact hfail
  · exact hrest

theorem issue {ws : List RegWrite} {k : Nat} {done : State → State} {u : State} (h : (done u).LastReportTimed) :
    (issue ws k done u).LastReportTimed := by
  unfold Machine.issue
  split
  · exact busWrite _ _ u
  · exact h

theorem issue_first {ws : List RegWrite} (hlen : 0 < ws.length) (done : State → State) (u : State) :
    (Machine.issue ws 0 done u).LastReportTimed :=
  issue_lt hlen done u ▸ busWrite _ _ u

theorem gated {s rest : State} (h : rest.LastReportTimed) : (gated s rest).LastReportTimed := by
  unfold Machine.gated
  split
  · exact h
  · exact respond_none _ s

/-- WRCH, WRALL and SETPIN. -/
theorem firstOfWrites (valid : Bool) (ws : List RegWrite) (s : State) :
    (firstOfWrites valid ws s).LastReportTimed := by
  refine gated ?_
  split
  · exact issue (respond_none _ s)
  · exact respond_none _ s

theorem restOfWrites (ws : List RegWrite) (c : Ctx) (s : State) : (restOfWrites ws c s).LastReportTimed :=
  answered (respond_none _ s) (issue (respond_none _ s))

theorem initSegment (c : Ctx) (s : State) : (initSegment c s).LastReportTimed := by
  have hfail := respond_none (failStatus c) s
  unfold Machine.initSegment
  split
  · exact issue_first (by decide) _ _
  · exact answered hfail (waitUntil _ _)
  · exact busRead _ _
  · exact answered hfail (busWrite _ _ _)
  · exact answered hfail (waitUntil _ _)
  · exact busRead _ _
  · exact answered hfail (issue (respond _ _ fun _ => trivial))

theorem setfreqFirst (num : BitVec 32) (den : BitVec 24) (s : State) : (setfreqFirst num den s).LastReportTimed := by
  refine gated ?_
  split
  · exact fault _ s
  · split
    · exact fault _ s
    · exact busRead _ _

theorem setfreqRest (c : Ctx) (s : State) : (setfreqRest c s).LastReportTimed := by
  have hfail := respond_none (failStatus c) s
  unfold Machine.setfreqRest
  split
  · exact answered hfail (busWrite _ _ _)
  · exact answered hfail (busWrite _ _ _)
  · exact answered hfail (busWrite _ _ _)
  · exact answered hfail (waitUntil _ _)
  · exact busWrite _ _ _
  · exact answered hfail (respond _ _ fun _ => trivial)

theorem coilSegment (pattern : CoilState) (c : Ctx) (s : State) : (coilSegment pattern c s).LastReportTimed := by
  unfold Machine.coilSegment
  split
  · exact gated (issue_first (by simp) _ _)
  · exact answered (respond_none _ _) (issue (respond_none _ _))

end State.LastReportTimed

/-- Only STEP reports steps. -/
theorem exec_lastReportTimed {i : Instr} {s t : State} (hi : i.isStep = false) (h : exec i s = .next t) :
    t.LastReportTimed := by
  cases i <;> obtain ⟨c, -, rfl⟩ := onCtx_next_iff.1 h
  case init => exact .initSegment c s
  case wrch | wrall | setpin =>
    split
    · exact .firstOfWrites _ _ s
    · exact .restOfWrites _ c s
  case setfreq num den =>
    split
    · exact .setfreqFirst num den s
    · exact .setfreqRest c s
  case getfreq =>
    split
    · exact .gated (.busRead _ s)
    · exact .answered (.respond_none _ s) (.respond _ _ fun _ => trivial)
  case swreset =>
    split
    · exact .of_closing (.send _ _) trivial
    · exact .answered (.respond_none _ s) (.respond_none _ s)
  case setstr num den =>
    split
    · refine .gated ?_
      split
      · exact .issue_first (by simp) _ _
      · exact .respond_none _ s
    · exact .answered (.respond_none _ s) (.issue (.respond_none _ _))
  case coils pattern => exact .coilSegment pattern c s
  case idle => exact .coilSegment 0 c s
  case step => cases hi
  case stop => exact .respond_none _ _

/-! #### STEP's own segments -/

/-- The outcome of a STEP segment: what it reports is long enough, and a loop that goes on is timed. -/
structure State.RunsTimed (t : State) : Prop where
  report : t.LastReportTimed
  loop : ∀ c, t.ctx? = some c → c.Timed t

/-- The loop context at the top of the loop (R180): the iterations completed ended, the last at t_end, at least as many
intervals after iteration 1 began; before iteration 1 no cancel is pending (R185). -/
structure Ctx.AtTop (u : State) (c : Ctx) : Prop where
  count : c.i ≤ c.count.toNat
  first : c.i = 0 → u.cancel = false
  done : c.i ≠ 0 → ∃ t0, c.tFirst = some t0 ∧ t0 + c.i * u.params.interval ≤ c.tEnd ∧ c.tEnd ≤ u.lastClock

section

variable {s t u : State} {c : Ctx}

/-- A response ends the loop. -/
theorem State.RunsTimed.respond {status : Status} {data : RespData}
    (h : (Event.respond u.cur ⟨status, data⟩).reportsAtLeast u.params.interval) :
    (u.respond status data).RunsTimed :=
  ⟨.of_closing (.respond status data) h, fun c hc => by simp [State.ctx?] at hc⟩

/-- STEP's report of the iterations completed (R181). -/
theorem State.RunsTimed.endStep {duration : Rat} (hcount : c.i ≤ c.count.toNat)
    (h : c.i * u.params.interval ≤ duration) (cancelled : Bool) : (u.endStep c duration cancelled).RunsTimed := by
  have hsteps : (BitVec.ofNat 32 c.i).toNat = c.i := Nat.mod_eq_of_lt (hcount.trans_lt c.count.isLt)
  refine .respond (u := u.endLoop) fun _ => ?_
  rw [hsteps]
  exact h

/-- The duration reported at the top of the loop covers the iterations completed. -/
theorem Ctx.AtTop.duration_ge (h : c.AtTop u) (h0 : c.i ≠ 0) : c.i * u.params.interval ≤ c.duration := by
  obtain ⟨t0, hfirst, hdone, -⟩ := h.done h0
  rw [Ctx.duration, hfirst, Option.getD_some]
  linarith

/-- The next iteration starts no earlier than the one before ended (R219). -/
theorem Ctx.AtTop.beginIteration (h : c.AtTop u) (hc : u.ctx? = some c) (hmore : c.i < c.count.toNat) :
    (u.beginIteration c).RunsTimed := by
  obtain ⟨-, hclock, -⟩ := u.clockValue_ge 0
  obtain ⟨w, -, hbegin⟩ := State.beginIteration_spec hc c
  obtain ⟨-, -, -, -, hlast, htrace, hctx⟩ := hbegin
  have hparams : (u.beginIteration c).params = u.params := (Frame.beginIteration c u).params
  refine ⟨⟨_, _, htrace.trans (List.append_cons ..), trivial⟩, fun c' hc' => ?_⟩
  obtain rfl := Option.some.inj (hctx.symm.trans hc')
  refine ⟨hmore, ?_, le_rfl, nofun⟩
  rw [hparams]
  by_cases h0 : c.i = 0
  · exact ⟨_, if_pos h0, by simp [h0]⟩
  · obtain ⟨t0, hfirst, hdone, hend⟩ := h.done h0
    refine ⟨t0, (if_neg h0).trans hfirst, ?_⟩
    simp only [Ctx.tookAck_i, Ctx.tookAck_tS, Ctx.startIteration_i, Ctx.startIteration_tS]
    linarith

/-- The top of the loop keeps the timing (R180, R181). -/
theorem Ctx.AtTop.loopTop (h : c.AtTop u) (hc : u.ctx? = some c) : (u.loopTop c).RunsTimed := by
  rcases Nat.lt_or_ge c.i c.count.toNat with hmore | hdone
  · cases hcancel : u.cancel with
    | false => exact State.loopTop_more hmore hcancel ▸ h.beginIteration hc hmore
    | true =>
      have h0 : c.i ≠ 0 := fun h0 => by simp [h.first h0] at hcancel
      exact State.loopTop_cancelled hmore hcancel ▸ .endStep h.count (h.duration_ge h0) true
  · rw [State.loopTop_done hdone]
    refine .endStep h.count ?_ false
    split
    next hzero =>
      have h0 : c.i = 0 := Nat.le_zero.1 (by simpa [hzero] using h.count)
      simp [h0]
    next hzero =>
      refine h.duration_ge fun h0 => hzero ?_
      exact BitVec.eq_of_toNat_eq (Nat.le_zero.1 (h0 ▸ hdone))

/-- The end of an iteration that took an interval or more. -/
theorem State.RunsTimed.endIteration (hc : u.ctx? = some c) (hmore : c.i < c.count.toNat)
    (hstart : ∃ t0, c.tFirst = some t0 ∧ t0 + c.i * u.params.interval ≤ c.tS)
    (hover : c.tS + u.params.interval ≤ u.lastClock) : (u.endIteration c u.lastClock).RunsTimed := by
  obtain ⟨t0, hfirst, hstart⟩ := hstart
  refine Ctx.AtTop.loopTop ⟨hmore, nofun, fun _ => ⟨t0, hfirst, ?_, le_rfl⟩⟩ (State.ctx?_modCtx hc _)
  simp only [Ctx.endIteration_i, Ctx.endIteration_tEnd, State.modCtx_params]
  push_cast
  linarith

/-- A write inside an iteration. -/
theorem Ctx.Timed.busWrite (h : c.Timed s) (hc : s.ctx? = some c) (hpos : c.pos < 16) (r v : Byte) :
    (s.busWrite r v).RunsTimed := by
  refine ⟨.busWrite r v s, fun c' hc' => ?_⟩
  have hc'' : s.ctxAt s.cur = some c := hc
  obtain rfl : c.tookAck s.env.nextAck = c' := by simpa [State.ctx?, hc''] using hc'
  refine ⟨h.more, by simpa using h.start, by simpa using h.past, fun h17 => ?_⟩
  simp at h17
  omega

/-- The wait of an iteration. -/
theorem Ctx.Timed.waitUntil (h : c.Timed s) (hc : u.ctx? = some c) (hparams : u.params = s.params)
    (hclock : s.lastClock ≤ u.lastClock) : (u.waitUntil (c.tS + s.params.interval)).RunsTimed := by
  refine ⟨.waitUntil _ u, fun c' hc' => ?_⟩
  have hc'' : u.ctxAt u.cur = some c := hc
  obtain rfl : c.waiting (c.tS + s.params.interval) = c' := by simpa [State.ctx?, hc''] using hc'
  refine ⟨h.more, by simpa [hparams] using h.start, ?_, fun _ => by simp [hparams]⟩
  rw [State.waitUntil_lastClock]
  exact h.past.trans hclock

/-- Step 4 of an iteration: it ends where an interval has elapsed, and else waits for that (R180). -/
theorem Ctx.Timed.measure (h : c.Timed s) (hc : s.ctx? = some c) : (s.measure c).RunsTimed := by
  have hclock := (Frame.readClock s.endPulse).clock
  unfold State.measure
  dsimp only
  split
  next => exact h.waitUntil (u := s.endPulse.readClock) hc (by simp) hclock
  next hover =>
    refine .endIteration (u := s.endPulse.readClock) hc h.more (by simpa using h.start) ?_
    simp only [State.readClock_params, State.endPulse_params]
    linarith

/-- The segment after an iteration's wait, which ended at its deadline or later (R220). -/
theorem Ctx.Timed.resume (h : c.Timed s) (hc : s.ctx? = some c) (hpos : c.pos = 17) :
    ((s.resume c).endIteration c (s.resume c).lastClock).RunsTimed := by
  obtain ⟨hdeadline, -, -⟩ := s.clockValue_ge (c.tS + s.params.interval)
  have hctx : (s.resume c).ctx? = some c.resumed := State.ctx?_modCtx (s := s.readClockFrom _) hc Ctx.resumed
  have hover : c.resumed.tS + (s.resume c).params.interval ≤ (s.resume c).lastClock := by
    simpa [h.wait hpos] using hdeadline
  have hresumed : ((s.resume c).endIteration c.resumed (s.resume c).lastClock).RunsTimed :=
    .endIteration hctx h.more (by simpa using h.start) hover
  exact hresumed

/-- STEP after segment 1 (R180). -/
theorem restSegment_step (dir : Dir) (count : BitVec 32) (c : Ctx) (s : State) :
    restSegment c s (.step dir count) =
      if c.pos = 17 then (s.resume c).endIteration c (s.resume c).lastClock
      else answered c (s.stepFail c) (issue s.stepWrites c.pos (State.measure c) s) := rfl

theorem exec_step_first {dir : Dir} {count : BitVec 32} (hc : s.ctx? = some c) (hpos : c.pos = 0) :
    exec (.step dir count) s = .next (stepFirst dir count c s) := by
  refine (onCtx_of_ctx hc _).trans (congrArg Host.Outcome.next ?_)
  simp only [hpos]

/-- Segment 1 of STEP: a refusal, or the top of the loop with no iteration completed (R180). -/
theorem stepFirst_runsTimed (dir : Dir) (count : BitVec 32) (hc : s.ctx? = some c) :
    (stepFirst dir count c s).RunsTimed := by
  have hraise (status : Status) : (s.raise status).RunsTimed := .respond trivial
  unfold stepFirst gated
  split
  next =>
    split
    next => exact hraise _
    next =>
      exact Ctx.AtTop.loopTop ⟨Nat.zero_le _, fun _ => rfl, fun h => absurd rfl h⟩
        (State.ctx?_modCtx (s := s.beginLoop) hc _)
  next => exact hraise _

/-- A segment of STEP, its first or one of a timed loop, keeps the timing (R181). -/
theorem exec_step_runsTimed {dir : Dir} {count : BitVec 32} (hc : s.ctx? = some c)
    (htimed : 0 < c.pos → c.Timed s) (h : exec (.step dir count) s = .next t) : t.RunsTimed := by
  rcases Nat.eq_zero_or_pos c.pos with hpos | hpos
  · obtain rfl := Host.Outcome.next.inj ((exec_step_first hc hpos).symm.trans h)
    exact stepFirst_runsTimed dir count hc
  · obtain rfl := Host.Outcome.next.inj ((exec_rest hc hpos.ne').symm.trans h)
    have timed := htimed hpos
    rw [restSegment_step]
    split
    next h17 => exact timed.resume hc h17
    next h17 =>
      unfold answered
      split
      next => exact .respond (u := s.endPulse.endLoop) trivial
      next =>
        rcases Nat.lt_or_ge c.pos 16 with h16 | h16
        · rw [issue_lt (s.stepWrites_length.symm ▸ h16)]
          exact timed.busWrite hc h16 _ _
        · rw [issue_ge (s.stepWrites_length.trans_le h16)]
          exact timed.measure hc

end

/-! #### Every step -/

/-- Every report in the trace is long enough. -/
theorem reportsAtLeast_iff {interval : Rat} {tr : List Event} : (∀ e ∈ tr, e.reportsAtLeast interval) ↔
    ∀ p steps dir duration cancelled, Event.respond p ⟨.ok, .stepped steps dir duration cancelled⟩ ∈ tr →
      steps.toNat * interval ≤ duration := by
  refine ⟨fun h p steps dir duration cancelled hmem => h _ hmem rfl, fun h e he => ?_⟩
  cases e with
  | respond p r =>
    obtain ⟨status, data⟩ := r
    cases data with
    | stepped steps dir duration cancelled =>
      rintro rfl
      exact h p steps dir duration cancelled he
    | _ => trivial
  | _ => trivial

/-- Clock readings report nothing. -/
theorem ClocksAdded.reportsAtLeast {p : Nat} {interval : Rat} {tr tr' : List Event} (h : ClocksAdded p tr tr')
    (htr : ∀ e ∈ tr, e.reportsAtLeast interval) : ∀ e ∈ tr', e.reportsAtLeast interval := by
  induction h with
  | none => exact htr
  | clock _ _ ih =>
    rw [List.forall_mem_append, List.forall_mem_singleton]
    exact ⟨ih, trivial⟩

/-- A loop context stays timed while another port runs: the clock does not go back (R219). -/
theorem Ctx.Timed.mono {s t : State} {c : Ctx} (h : c.Timed s) (hparams : t.params = s.params)
    (hclock : s.lastClock ≤ t.lastClock) : c.Timed t :=
  ⟨h.more, by rw [hparams]; exact h.start, h.past.trans hclock, by rw [hparams]; exact h.wait⟩

/-- A step that leaves the loop contexts it does not end as they were, and adds no report that is too short. -/
theorem State.DurationInv.of_reports {s t : State} (h : s.DurationInv) (hparams : t.params = s.params)
    (hclock : s.lastClock ≤ t.lastClock)
    (hloops : ∀ p c dir count, t.ctxAt p = some c → c.cmd = some (.step dir count) → 0 < c.pos →
      s.ctxAt p = some c ∨ c.Timed t)
    (hreports : ∀ e ∈ t.trace, e.reportsAtLeast s.params.interval) : t.DurationInv := by
  refine ⟨fun p c dir count hc hcmd hpos => ?_, ?_⟩
  · rcases hloops p c dir count hc hcmd hpos with hs | ht
    · exact (h.loops p c dir count hs hcmd hpos).mono hparams hclock
    · exact ht
  · rw [hparams]
    exact reportsAtLeast_iff.1 hreports

/-- A block after reset has reported nothing and has no step loop. -/
theorem State.DurationInv.reset (p : Params) (clock : Rat) : (State.resetWith p clock).DurationInv := by
  refine ⟨fun q c dir count hc => ?_, nofun⟩
  have hidle : (State.resetWith p clock).ctxAt q = none := State.ctxAt_of_idle (fun x hx => by
    obtain ⟨-, rfl⟩ := List.mem_replicate.1 hx
    exact ⟨rfl, rfl⟩) q
  simp [hidle] at hc

/-- Every step keeps the timing of the loops and of the reports. -/
theorem State.DurationInv.step {s t : State} (hinv : s.Inv) (h : s.DurationInv) (hstep : step s = .next t) :
    t.DurationInv := by
  have hold := reportsAtLeast_iff.2 h.reported
  have hadd {tr : List Event} {e : Event} (htr : ∀ e ∈ tr, e.reportsAtLeast s.params.interval)
      (he : e.reportsAtLeast s.params.interval) : ∀ x ∈ tr ++ [e], x.reportsAtLeast s.params.interval := by
    rw [List.forall_mem_append, List.forall_mem_singleton]
    exact ⟨htr, he⟩
  cases step_cases hstep with
  | pass e => exact h.of_reports rfl le_rfl (fun _ _ _ _ hc _ _ => .inl hc) hold
  | @accept p w rest hturn hacc =>
    obtain ⟨⟨x, hx, -⟩, -⟩ := (s.accepts_iff p).1 hacc
    refine h.of_reports rfl le_rfl (fun q c dir count hc hcmd _ => .inl ?_) (hadd hold trivial)
    rw [State.ctxAt_take (s := s.dropTurn) hx] at hc
    split at hc
    next =>
      obtain rfl := Option.some.inj hc
      cases hcmd
    next => exact hc
  | @illegal e p c hctx hcmd =>
    refine h.of_reports rfl le_rfl (fun q c dir count hc _ _ => .inl ?_) (hadd hold trivial)
    rw [State.raise, State.ctxAt_respond] at hc
    split at hc
    next => cases hc
    next => exact hc
  | @segment e p c i _ hctx hi hrun =>
    have hpick := State.pick_ctx? hctx e i
    have hruns (hs : i.isStep = true) : t.RunsTimed := by
      obtain ⟨dir, count, rfl⟩ := Instr.eq_step_of_isStep hs
      refine exec_step_runsTimed hpick (fun hpos => ?_) hrun
      obtain hcmd | ⟨hcmd, -⟩ := hi
      · have timed := h.loops p c dir count hctx hcmd hpos
        exact ⟨timed.more, timed.start, timed.past, timed.wait⟩
      · have hpos0 := (Ctx.sound_iff_of_no_cmd hcmd).1 (hinv.running hctx).2
        exact absurd hpos0 hpos.ne'
    have hreport : t.LastReportTimed := by
      cases hs : i.isStep with
      | false => exact exec_lastReportTimed hs hrun
      | true => exact (hruns hs).report
    have frame := exec_frame hrun
    obtain ⟨tr, ev, htrace, hev⟩ := hreport
    obtain @⟨f, u, a, quiet, closes⟩ := exec_segment hpick hrun
    have hctxAt := quiet.run_ctxAt hpick a
    refine h.of_reports frame.params frame.clock (fun q c' dir count hc' hcmd hpos => ?_) ?_
    · rw [hctxAt, State.pick_cur] at hc'
      split at hc'
      next hpq =>
        obtain ⟨-, hcmd', -, -⟩ := Closing.context_some hc'
        obtain rfl : i = .step dir count := Option.some.inj ((hcmd'.trans (quiet.cmd _)).symm.trans hcmd)
        refine .inr ((hruns rfl).loop c' ?_)
        rw [State.ctx?_eq, frame.cur, hctxAt, if_pos rfl, hc']
      next hpq =>
        refine .inl ?_
        simpa [hpq] using hc'
    · rw [Closing.run_trace]
      refine hadd (quiet.trace.reportsAtLeast hold) ?_
      obtain ⟨-, hlast⟩ := List.append_inj' ((a.run_trace u).symm.trans htrace) rfl
      rw [List.singleton_inj.1 hlast]
      rw [frame.params] at hev
      exact hev

/-- Settles O56: nothing is reported after reset, and a report is made at the top of a loop that is timed. -/
theorem stepDurationsAreLowerBounded : Obligations.StepDurationsAreLowerBounded :=
  ⟨.reset, fun _ _ hinv h hstep => h.step hinv hstep⟩

end Sys2Proof.Machine

namespace Sys2Proof.Machine

/-! ### The sequencer's commands segment by segment -/

theorem issue_of_getElem? {ws : List RegWrite} {k : Nat} {w : RegWrite} (h : ws[k]? = some w) (done : State → State)
    (s : State) : issue ws k done s = s.busWrite w.reg w.val := by
  simp [issue, h]

section

variable {s : State} {c : Ctx} {num : BitVec 32} {den : BitVec 24}

/-- SETSTR's k-th write: the duty's two bytes after two zeros, to pwm1's registers and then to pwm2's (R165). -/
theorem dutyWrites_getElem? {k : Nat} (hk : k < 8) (w : Wiring) (d : Int) : (dutyWrites w d)[k]? = some
    ⟨BitVec.ofNat 8 (6 + 4 * (if k < 4 then w.pwm1 else w.pwm2) + k % 4),
      if k % 4 = 2 then BitVec.ofNat 8 (d.toNat % 256) else if k % 4 = 3 then BitVec.ofNat 8 (d.toNat / 256)
      else 0x00⟩ := by
  simp only [dutyWrites, groupWrites_chanBase, ← loByte_eq, ← hiByte_eq]
  interval_cases k <;> rfl

/-- Segment 1 of SETSTR in a ready block (R165). -/
theorem exec_setstr_first (hc : s.ctx? = some c) (hpos : c.pos = 0) (hready : s.ready = true) :
    exec (.setstr num den) s = .next
      (if validTick (dutyOf (strOperand num den)) then
        issue (dutyWrites s.params.wiring (dutyOf (strOperand num den))) 0 id
          (s.modCtx (Ctx.keepDuty (dutyOf (strOperand num den))))
      else s.raise .validation) := by
  refine (onCtx_of_ctx hc _).trans (congrArg Host.Outcome.next ?_)
  simp only [hpos]
  exact gated_ready hready _

/-- Segment 1 of SETSTR with a duty in range. -/
theorem exec_setstr_write_first (hc : s.ctx? = some c) (hpos : c.pos = 0) (hready : s.ready = true)
    (hv : validTick (dutyOf (strOperand num den)) = true) : exec (.setstr num den) s = .next
      ((s.modCtx (Ctx.keepDuty (dutyOf (strOperand num den)))).busWrite
        (BitVec.ofNat 8 (6 + 4 * s.params.wiring.pwm1)) 0x00) := by
  rw [exec_setstr_first hc hpos hready, if_pos hv, issue_of_getElem? (dutyWrites_getElem? (by decide) _ _)]
  rfl

theorem restSegment_setstr (ha : c.answer ≠ .err) (s : State) : restSegment c s (.setstr num den) =
    issue (dutyWrites s.params.wiring c.duty) c.pos
      (fun s => (s.setThrottle (strOperand num den)).respond .ok .none) s :=
  answered_ok ha _ _

/-- Settles O30: segment 1, then the writes of `dutyWrites` in order, and the response with `throttle`. -/
theorem setstrSegments : Obligations.SetstrSegments := by
  intro num den s c hc fr
  have hvalid : validTick (dutyOf (strOperand num den)) = true ↔ 0 ≤ dutyOf fr ∧ dutyOf fr ≤ 4095 := validTick_iff _
  refine ⟨fun hpos hr => exec_of_not_ready hc hpos hr rfl, fun hpos hr hv => ?invalid, fun hpos hr hv => ?first,
    fun ha k h1 h7 hpos => ?write, fun ha hpos => ?done⟩
  case invalid =>
    rw [exec_setstr_first hc hpos hr, if_neg (mt hvalid.1 hv)]
    rfl
  case first => exact exec_setstr_write_first hc hpos hr (hvalid.2 hv)
  case write =>
    rw [exec_rest hc (by omega), restSegment_setstr ha, hpos, issue_of_getElem? (dutyWrites_getElem? (by omega) _ _)]
  case done =>
    rw [exec_rest hc (by omega), restSegment_setstr ha, issue_ge (by simp [hpos])]
    rfl

/-- Command i is one coil update, UpdateCoils(pattern) (R164, R170, R175). -/
inductive CoilCommand : Instr → CoilState → Prop
  | coils (pattern : CoilState) : CoilCommand (.coils pattern) pattern
  | idle : CoilCommand .idle 0

theorem CoilCommand.of_eq {i : Instr} {pattern : CoilState} (h : i = .coils pattern ∨ (i = .idle ∧ pattern = 0)) :
    CoilCommand i pattern := by
  obtain rfl | ⟨rfl, rfl⟩ := h
  · exact .coils pattern
  · exact .idle

namespace CoilCommand

variable {i : Instr} {pattern : CoilState}

theorem needsReady (h : CoilCommand i pattern) : i.needsReady = true := by cases h <;> rfl

theorem exec_eq (h : CoilCommand i pattern) (hc : s.ctx? = some c) : exec i s = .next (coilSegment pattern c s) := by
  cases h <;> exact onCtx_of_ctx hc _

/-- Segment 1 in a ready block: the coil update begins (R164). -/
theorem exec_first (h : CoilCommand i pattern) (hc : s.ctx? = some c) (hpos : c.pos = 0) (hready : s.ready = true) :
    exec i s = .next (issue (coilWrites s.params.wiring pattern) 0 id s.beginPulse) := by
  rw [h.exec_eq hc, coilSegment]
  split
  next => rw [gated_ready hready]
  next h0 => exact absurd hpos h0

theorem restSegment_eq (h : CoilCommand i pattern) (c : Ctx) (s : State) :
    restSegment c s i = coilSegment pattern c s := by
  cases h <;> rfl

/-- A later segment: the next write, or the end of the coil update. -/
theorem restSegment_ok (h : CoilCommand i pattern) (h0 : c.pos ≠ 0) (ha : c.answer ≠ .err) (s : State) :
    restSegment c s i =
      issue (coilWrites s.params.wiring pattern) c.pos (fun s => s.endPulse.respond .ok .none) s := by
  rw [h.restSegment_eq, coilSegment]
  split
  next hpos => exact absurd hpos h0
  next => exact answered_ok ha _ _

end CoilCommand

/-- Settles O31: segment 1 begins the coil update, the last segment ends it. -/
theorem coilsAndIdleSegments : Obligations.CoilsAndIdleSegments := by
  intro i pattern s c hc hi
  have h := CoilCommand.of_eq hi
  refine ⟨fun hpos hr => exec_of_not_ready hc hpos hr h.needsReady, fun w hw hpos hr => ?first,
    fun k w hw h1 h15 hpos ha => ?write, fun hpos ha => ?done⟩
  case first =>
    rw [h.exec_first hc hpos hr, issue_of_getElem? hw]
    rfl
  case write => rw [exec_rest hc (by omega), h.restSegment_ok (by omega) ha, hpos, issue_of_getElem? hw]
  case done =>
    rw [exec_rest hc (by omega), h.restSegment_ok (by omega) ha, issue_ge (by simp [hpos])]
    rfl

theorem stepFirst_contended (dir : Dir) (count : BitVec 32) (c : Ctx) (hready : s.ready = true)
    (h : s.seqState = .stepping ∨ s.pulsing = true) : stepFirst dir count c s = s.respond .contention .none := by
  have hcon : s.contended = true := by simpa [State.contended] using h
  rw [stepFirst, gated_ready hready, if_pos hcon]
  rfl

/-- Segment 1 of STEP where nothing is in its way: the top of the loop (R180, R190). -/
theorem stepFirst_free (dir : Dir) (count : BitVec 32) (c : Ctx) (hready : s.ready = true) (hidle : s.seqState = .idle)
    (hpulse : s.pulsing = false) : stepFirst dir count c s =
      (s.beginLoop.modCtx (Ctx.startLoop dir count)).loopTop (c.startLoop dir count) := by
  have hcon : ¬ s.contended = true := by simp [State.contended, hidle, hpulse]
  rw [stepFirst, gated_ready hready, if_neg hcon]

/-- A STEP of no iterations (R180). -/
theorem stepFirst_zero (dir : Dir) (c : Ctx) (hready : s.ready = true) (hidle : s.seqState = .idle)
    (hpulse : s.pulsing = false) :
    stepFirst dir 0 c s = (s.setCancel false).respond .ok (.stepped 0 dir 0 false) := by
  have hloop : s.beginLoop.endLoop = s.setCancel false :=
    congrArg (fun q => (s.setCancel false).setSeqState q) hidle.symm
  rw [stepFirst_free dir 0 c hready hidle hpulse, State.loopTop_done le_rfl, State.endStep_modCtx,
    if_pos (show (c.startLoop dir 0).count = 0 from rfl), State.endStep, hloop]
  rfl

/-- Segment 1 of a STEP with iterations to do begins the first (R180). -/
theorem stepFirst_begins {dir : Dir} {count : BitVec 32} (c : Ctx) (hready : s.ready = true)
    (hidle : s.seqState = .idle) (hpulse : s.pulsing = false) (hcount : count ≠ 0) : stepFirst dir count c s =
      (s.beginLoop.modCtx (Ctx.startLoop dir count)).beginIteration (c.startLoop dir count) := by
  have hmore : 0 < count.toNat := Nat.pos_of_ne_zero fun h => hcount (BitVec.eq_of_toNat_eq h)
  rw [stepFirst_free dir count c hready hidle hpulse]
  exact State.loopTop_more hmore rfl

/-- Settles O32: the checks of segment 1 in their order, then the start of an iteration. -/
theorem stepAcceptance : Obligations.StepAcceptance := by
  intro dir count s c hc hpos
  have hexec := exec_step_first (dir := dir) (count := count) hc hpos
  refine ⟨fun hr => exec_of_not_ready hc hpos hr rfl, fun hr hcon => ?contended, fun hr hidle hpulse hzero => ?zero,
    fun hr hidle hpulse hcount => ?begins⟩
  case contended => rw [hexec, stepFirst_contended dir count c hr hcon]
  case zero =>
    subst hzero
    rw [hexec, stepFirst_zero dir c hr hidle hpulse]
  case begins =>
    rw [stepFirst_begins c hr hidle hpulse hcount] at hexec
    have hctx := State.ctx?_modCtx (s := s.beginLoop) hc (Ctx.startLoop dir count)
    obtain ⟨w, hw, hseq, hcancel, hpulse', hindex, hclock, htrace, hctx'⟩ :=
      State.beginIteration_spec hctx (c.startLoop dir count)
    have hlast : s.readClock.lastClock = s.clockValue 0 := State.readClock_lastClock s
    have writes := (exec_segment hc hexec).writes
    exact ⟨_, _, w, hexec, hw, hindex, hseq, hcancel, hpulse', hclock.trans hlast.symm, htrace, hctx',
      rfl, rfl, rfl, rfl, rfl, rfl, rfl, writes.ready rfl, writes.throttle rfl, writes.faulted rfl⟩

/-- A STEP segment that starts with `ok`, up to the last write of an iteration (R180). -/
theorem exec_step_answered {dir : Dir} {count : BitVec 32} (hc : s.ctx? = some c) (h0 : c.pos ≠ 0) (h17 : c.pos ≠ 17)
    (ha : c.answer ≠ .err) :
    exec (.step dir count) s = .next (issue s.stepWrites c.pos (State.measure c) s) := by
  rw [exec_rest hc h0, restSegment_step, if_neg h17, answered_ok ha]

/-- Settles O33: the k-th write of the table's pattern, and the wait for the rest of the interval. -/
theorem stepIterationSegments : Obligations.StepIterationSegments := by
  intro dir count s c hc ha
  refine ⟨fun k w hw h1 h15 hpos => ?write, fun hpos helapsed => ?wait⟩
  case write =>
    have hw' : s.stepWrites[c.pos]? = some w := hpos ▸ hw
    rw [exec_step_answered hc (by omega) (by omega) ha, issue_of_getElem? hw']
  case wait =>
    rw [exec_step_answered hc (by omega) (by omega) ha, issue_ge (s.stepWrites_length.trans hpos.symm).le]
    exact congrArg Host.Outcome.next (if_pos helapsed)

/-- STOP's request as an update of `cancel` (R185). -/
theorem State.requestStop_eq (s : State) :
    s.requestStop = s.setCancel (if s.seqState = .stepping then true else s.cancel) := by
  unfold State.requestStop
  split <;> rfl

/-- Settles O35: the request, then the response. -/
theorem stopSetsCancelOnlyWhileStepping : Obligations.StopSetsCancelOnlyWhileStepping := by
  intro s c hc
  refine (onCtx_of_ctx hc _).trans (congrArg Host.Outcome.next ?_)
  rw [State.requestStop_eq]
  rfl

end

end Sys2Proof.Machine

namespace Sys2Proof.Machine

/-! ### SETSTR, COILS and IDLE run alone -/

/-- The context after k of a command's writes were answered `ok`. -/
def Ctx.afterWrites (k : Nat) (c : Ctx) : Ctx := (Ctx.tookAck .ok)^[k] c

section

variable (k : Nat) (c : Ctx)

theorem Ctx.afterWrites_succ : c.afterWrites (k + 1) = (c.afterWrites k).tookAck .ok :=
  Function.iterate_succ_apply' _ _ _

theorem Ctx.afterWrites_pos : (c.afterWrites k).pos = c.pos + k := by
  induction k with
  | zero => rfl
  | succ k ih => rw [Ctx.afterWrites_succ, Ctx.tookAck_pos, ih, Nat.add_assoc]

theorem Ctx.afterWrites_duty : (c.afterWrites k).duty = c.duty := by
  induction k with
  | zero => rfl
  | succ k ih => rw [Ctx.afterWrites_succ, Ctx.tookAck_duty, ih]

variable {k}

theorem Ctx.afterWrites_answer (h : k ≠ 0) : (c.afterWrites k).answer = .ok := by
  obtain ⟨k, rfl⟩ := Nat.exists_eq_succ_of_ne_zero h
  rw [Nat.succ_eq_add_one, Ctx.afterWrites_succ]
  rfl

theorem Ctx.afterWrites_wrote (h : k ≠ 0) : (c.afterWrites k).wrote = true := by
  obtain ⟨k, rfl⟩ := Nat.exists_eq_succ_of_ne_zero h
  rw [Nat.succ_eq_add_one, Ctx.afterWrites_succ]
  exact Bool.or_true _

end

/-- From s, command i issues the writes ws: the first in segment 1, whose own work leaves the block b with context c,
and each later one in the segment that starts with the answer to the one before (R71). -/
structure WriteRun (i : Instr) (ws : List RegWrite) (s b : State) (c : Ctx) : Prop where
  ctx : b.ctx? = some c
  pos : c.pos = 0
  first : ∀ h : 0 < ws.length, exec i s = .next (b.busWrite ws[0].reg ws[0].val)
  later : ∀ k (h : k < ws.length) (u : State), k ≠ 0 → u.params = b.params →
    restSegment (c.afterWrites k) u i = u.busWrite ws[k].reg ws[k].val

namespace WriteRun

variable {i : Instr} {ws : List RegWrite} {s b : State} {c : Ctx} {k : Nat} {acks : List Ack}

/-- The state after the first k + 1 writes, the last of them with any answer. -/
theorem write (h : WriteRun i ws s b c) {a : Ack} (hk : k < ws.length)
    (hacks : b.env.acks = List.replicate k .ok ++ a :: acks) :
    runSegments i (k + 1) s = .next (b.during ((c.afterWrites k).tookAck a) { b.env with acks := acks } b.lastClock
      (writeEvents b.cur b.params.dev (ws.take k) ++ [.write b.cur b.params.dev ws[k].reg ws[k].val a])) := by
  induction k generalizing a acks with
  | zero =>
    obtain ⟨hnext, hdrop⟩ := Env.ack_cons (e := b.env) hacks
    refine runSegments_succ (u := s) rfl ((h.first hk).trans (congrArg Host.Outcome.next ?_))
    rw [State.busWrite_eq_during h.ctx, hnext, hdrop]
    rfl
  | succ k ih =>
    have hrun := ih (a := .ok) (acks := a :: acks) (by omega) (by simp [hacks, List.replicate_succ'])
    rw [← Ctx.afterWrites_succ, ← writeEvents_take_succ] at hrun
    obtain ⟨hnext, hdrop⟩ := Env.ack_cons (e := { b.env with acks := a :: acks }) rfl
    refine runSegments_succ hrun ?_
    rw [exec_rest (State.during_ctx? (State.cur_lt_of_ctx? h.ctx)) (by rw [Ctx.afterWrites_pos]; omega),
      h.later (k + 1) hk _ (by omega) State.during_params, State.during_busWrite, hnext, hdrop]

/-- The whole run: every write answered `ok`, then the segment after the last. -/
theorem run (h : WriteRun i ws s b c) {v : State} (hws : ws ≠ [])
    (hacks : b.env.acks = List.replicate ws.length .ok ++ acks)
    (hlast : restSegment (c.afterWrites ws.length) (b.during (c.afterWrites ws.length) { b.env with acks := acks }
      b.lastClock (writeEvents b.cur b.params.dev ws)) i = v) :
    runSegments i (ws.length + 1) s = .next v := by
  obtain ⟨n, hn⟩ := Nat.exists_eq_succ_of_ne_zero (mt List.length_eq_zero_iff.1 hws)
  have hrun := h.write (k := n) (a := .ok) (acks := acks) (by omega) (by simp [hacks, hn, List.replicate_succ'])
  rw [← Ctx.afterWrites_succ, ← writeEvents_take_succ, ← Nat.succ_eq_add_one, ← hn, List.take_length] at hrun
  refine runSegments_succ hrun ?_
  rw [exec_rest (State.during_ctx? (State.cur_lt_of_ctx? h.ctx)) (by rw [Ctx.afterWrites_pos]; omega), hlast]

end WriteRun

section

variable {s : State} {c : Ctx}

/-- A state between two segments does not depend on what the context was before. -/
theorem State.modCtx_during (f : Ctx → Ctx) (c : Ctx) (e : Env) (t : Rat) (es : List Event) (s : State) :
    (s.modCtx f).during c e t es = s.during c e t es := by
  simp only [State.during, State.modCtx, State.modPortAt, State.setPorts, List.modify_modify_eq]
  rfl

/-- SETSTR with a duty in range issues its eight writes (R165). -/
theorem WriteRun.setstr {num : BitVec 32} {den : BitVec 24} (hc : s.ctx? = some c) (hpos : c.pos = 0)
    (hready : s.ready = true) (hv : validTick (dutyOf (strOperand num den)) = true) :
    WriteRun (.setstr num den) (dutyWrites s.params.wiring (dutyOf (strOperand num den))) s
      (s.modCtx (Ctx.keepDuty (dutyOf (strOperand num den)))) (c.keepDuty (dutyOf (strOperand num den))) where
  ctx := State.ctx?_modCtx hc _
  pos := hpos
  first h := by rw [exec_setstr_first hc hpos hready, if_pos hv, issue_lt h]
  later k hk u h0 hu := by
    have hparams : u.params = s.params := hu
    have hk' : (c.keepDuty (dutyOf (strOperand num den))).pos + k = k := by
      rw [Ctx.keepDuty_pos, hpos, Nat.zero_add]
    rw [restSegment_setstr (by simp [Ctx.afterWrites_answer _ h0]), Ctx.afterWrites_pos, Ctx.afterWrites_duty, hparams,
      hk', Ctx.keepDuty_duty, issue_lt hk]

/-- Settles O46: the writes of `dutyWrites`, then the response with `throttle`. -/
theorem setstrWritesBothWindings : Obligations.SetstrWritesBothWindings := by
  intro num den d s c acks hc hpos hready hd hmax hacks
  have hduty : dutyOf (strOperand num den) = d := hd
  have hv : validTick (dutyOf (strOperand num den)) = true := by
    rw [hduty, validTick_iff]
    omega
  have h := WriteRun.setstr hc hpos hready hv
  rw [hduty] at h
  refine h.run (acks := acks) (List.cons_ne_nil _ _) hacks ?_
  rw [restSegment_setstr (by simp [Ctx.afterWrites_answer]), Ctx.afterWrites_pos, issue_ge (by simp),
    State.modCtx_during]
  refine (State.during_respond (s := s.setThrottle (strOperand num den)) _ _).trans ?_
  rw [← List.append_assoc]
  rfl

/-- COILS and IDLE issue the sixteen writes of their coil update (R164). -/
theorem WriteRun.coilUpdate {i : Instr} {pattern : CoilState} (h : CoilCommand i pattern) (hc : s.ctx? = some c)
    (hpos : c.pos = 0) (hready : s.ready = true) :
    WriteRun i (coilWrites s.params.wiring pattern) s s.beginPulse c where
  ctx := hc
  pos := hpos
  first hlen := by rw [h.exec_first hc hpos hready, issue_lt hlen]
  later k hk u h0 hu := by
    have hparams : u.params = s.params := hu
    have hk' : (c.afterWrites k).pos = k := by rw [Ctx.afterWrites_pos, hpos, Nat.zero_add]
    rw [h.restSegment_ok (by rwa [hk']) (by simp [Ctx.afterWrites_answer _ h0]), hk', hparams, issue_lt hk]

/-- Settles O47: the writes of the coil update, then the response with `pulsing` = 0. -/
theorem coilUpdatesWriteSixteenBytes : Obligations.CoilUpdatesWriteSixteenBytes := by
  intro i pattern s c acks hi hc hpos hready hacks
  have h := CoilCommand.of_eq hi
  have hrun := WriteRun.coilUpdate h hc hpos hready
  have hlen := coilWrites_length s.params.wiring pattern
  rw [show 17 = (coilWrites s.params.wiring pattern).length + 1 by rw [hlen]]
  refine hrun.run (acks := acks) (List.ne_nil_of_length_pos (by simp)) (by rw [hlen]; exact hacks) ?_
  rw [h.restSegment_ok (by simp [Ctx.afterWrites_pos]) (by simp [Ctx.afterWrites_answer]), Ctx.afterWrites_pos,
    issue_ge (by simp)]
  refine (State.during_respond (s := s.endPulse) _ _).trans ?_
  rw [← List.append_assoc]
  rfl

/-- Settles O48: the first k writes, the failing one, then the failure exit with `pulsing` = 0. -/
theorem failedCoilUpdateIsPrecise : Obligations.FailedCoilUpdateIsPrecise := by
  intro i pattern k w s c acks hi hc hpos hwrote hready hw hacks
  have h := CoilCommand.of_eq hi
  obtain ⟨hk, rfl⟩ := List.getElem?_eq_some_iff.1 hw
  have hstatus : failStatus ((c.afterWrites k).tookAck .err) = if k = 0 then .transport else .partialWrite := by
    by_cases h0 : k = 0
    · subst h0
      simp [failStatus, Ctx.afterWrites, hwrote]
    · simp [failStatus, Ctx.afterWrites_wrote c h0, h0]
  refine runSegments_succ ((WriteRun.coilUpdate h hc hpos hready).write hk hacks) ?_
  rw [exec_rest (State.during_ctx? (s := s.beginPulse) (State.cur_lt_of_ctx? hc)) (by simp), h.restSegment_eq,
    coilSegment_of_err (by simp) rfl]
  refine congrArg Host.Outcome.next ((State.during_respond (s := s.endPulse) _ _).trans ?_)
  rw [hstatus, ← List.append_assoc, ← List.append_assoc, List.append_assoc]
  rfl

end

/-! ### The coil pins after IDLE (R175, R222) -/

theorem Chip.afterWrites_wf {k : Chip} (h : k.wf) (ws : List RegWrite) : (k.afterWrites ws).wf := by
  induction ws generalizing k with
  | nil => exact h
  | cons w ws ih => exact ih (Chip.put_wf h _ _)

theorem Chip.afterWrites_append (k : Chip) (ws ws' : List RegWrite) :
    k.afterWrites (ws ++ ws') = (k.afterWrites ws).afterWrites ws' :=
  List.foldl_append

section

variable {k : Chip} {n n' : Nat}

/-- A per-channel write drives its channel as its pair says, sentinels included (R222, R223). -/
theorem Chip.channel_afterGroupWrite (hk : k.wf) (hn : n < 16) {onTick offTick : Nat} (hon : onTick ≤ 4096)
    (hoff : offTick ≤ 4096) :
    (k.afterWrites (groupWrites (chanBase n) onTick offTick)).channel n = Drive.ofPair onTick offTick := by
  obtain ⟨-, hdrive, hbroadcast⟩ := hk
  obtain ⟨edrive, ebroadcast⟩ := k.afterWrites_chanBase hn onTick offTick
  have hown : tickPair (k.afterWrites (groupWrites (chanBase n) onTick offTick)).broadcast n = none := by
    refine tickPair_unknown ?_
    rw [ebroadcast, read_updateGroup hbroadcast]
    simp
  have hpair : tickPair (k.afterWrites (groupWrites (chanBase n) onTick offTick)).drive n =
      some (onTick, offTick) := by
    rw [edrive]
    refine tickPair_eq hon hoff ?_ ?_ ?_ ?_ <;> rw [read_updateGroup hdrive] <;> simp
  rw [Chip.channel, hown, hpair, if_neg nofun]

/-- A pin written Off is driven Off, and other pins written Off leave it so (R222). -/
theorem Chip.channel_afterPinOff (hk : k.wf) (hn : n < 16) (h : n' = n ∨ k.channel n' = .alwaysOff) :
    (k.afterWrites (pinWrites n .off)).channel n' = .alwaysOff := by
  by_cases hne : n' = n
  · subst hne
    exact (Chip.channel_afterGroupWrite hk hn (by decide) le_rfl).trans (by decide)
  · exact (Chip.channel_afterChannelWrite_other hk hn hne 0 tickSentinel).trans (h.resolve_left hne)

/-- After a list of pins written Off, each is driven Off. -/
theorem Chip.channel_afterPinsOff (pins : List Nat) (hk : k.wf) (hpins : ∀ n ∈ pins, n < 16)
    (h : n' ∈ pins ∨ k.channel n' = .alwaysOff) :
    (k.afterWrites (pins.flatMap fun n => pinWrites n .off)).channel n' = .alwaysOff := by
  induction pins generalizing k with
  | nil => simpa [Chip.afterWrites] using h
  | cons n pins ih =>
    obtain ⟨hn, hrest⟩ := List.forall_mem_cons.1 hpins
    rw [List.flatMap_cons, Chip.afterWrites_append]
    refine ih (Chip.afterWrites_wf hk _) hrest ?_
    rw [List.mem_cons, or_assoc, or_left_comm] at h
    exact h.imp_right (Chip.channel_afterPinOff hk hn)

end

/-- IDLE's coil update writes all four coil pins Off (R175). -/
theorem coilWrites_zero (w : Wiring) :
    coilWrites w 0 = [w.in2_1, w.in1_2, w.in1_1, w.in2_2].flatMap fun n => pinWrites n .off := rfl

/-- The chip after an IDLE that ran alone (log 17). -/
theorem idle_run_chip {s : State} {c : Ctx} {acks : List Ack} (hc : s.ctx? = some c) (hpos : c.pos = 0)
    (hready : s.ready = true) (hacks : s.env.acks = List.replicate 16 .ok ++ acks) :
    ∃ t, runSegments .idle 17 s = .next t ∧ t.pulsing = false ∧
      t.chip = s.chip.afterWrites (coilWrites s.params.wiring 0) := by
  refine ⟨_, coilUpdatesWriteSixteenBytes .idle 0 s c acks (.inr ⟨rfl, rfl⟩) hc hpos hready hacks, rfl, ?_⟩
  rw [State.chip, Chip.ofTrace_append, Chip.ofTrace_append, Chip.ofTrace_writeEvents]
  rfl

/-- Settles O50: the chip after sixteen writes that turn the four pins Off. -/
theorem idleDrivesAllCoilPinsOff : Obligations.IdleDrivesAllCoilPinsOff := by
  intro s c acks hok hc hpos hready hacks
  obtain ⟨hch, -⟩ := s.params.ok_iff.1 hok
  simp only [Wiring.channels, List.forall_mem_cons] at hch
  obtain ⟨-, h1, h2, -, h3, h4, -⟩ := hch
  obtain ⟨t, hrun, hpulse, hchip⟩ := idle_run_chip hc hpos hready hacks
  refine ⟨t, hrun, hpulse, fun n hn => ?_⟩
  rw [hchip, coilWrites_zero]
  refine Chip.channel_afterPinsOff _ s.chip_wf ?_ (.inl hn)
  simp only [List.forall_mem_cons]
  exact ⟨h2, h3, h1, h4, nofun⟩

end Sys2Proof.Machine

namespace Sys2Proof.Machine

/-! ### STEP run alone (R180, R181, R192) -/

/-- All queued answers are `ok`, and m of them or more are left. -/
structure Env.AllOk (e : Env) (m : Nat) : Prop where
  ok : ∀ a ∈ e.acks, a = Ack.ok
  enough : m ≤ e.acks.length

theorem Env.dropClock_acks (e : Env) : e.dropClock.acks = e.acks := by
  unfold Env.dropClock
  split <;> rfl

theorem Env.AllOk.dropClock {e : Env} {m : Nat} (h : e.AllOk m) : e.dropClock.AllOk m :=
  ⟨by rw [e.dropClock_acks]; exact h.ok, by rw [e.dropClock_acks]; exact h.enough⟩

theorem Env.AllOk.mono {e : Env} {m m' : Nat} (h : e.AllOk m) (hm : m' ≤ m) : e.AllOk m' :=
  ⟨h.ok, hm.trans h.enough⟩

/-- The next write is answered `ok`, and one answer fewer is left. -/
theorem Env.AllOk.next {e : Env} {m : Nat} (h : e.AllOk m) (hm : 0 < m) :
    e.nextAck = .ok ∧ e.dropAck.AllOk (m - 1) := by
  obtain ⟨hok, henough⟩ := h
  obtain ⟨a, acks, hacks⟩ := List.exists_cons_of_length_pos (hm.trans_le henough)
  obtain ⟨hnext, hdrop⟩ := Env.ack_cons hacks
  rw [hacks] at hok henough
  obtain ⟨rfl, hrest⟩ := List.forall_mem_cons.1 hok
  exact ⟨hnext, by rw [hdrop]; exact ⟨hrest, by simpa using henough⟩⟩

theorem State.beginIteration_env (c : Ctx) (s : State) : (s.beginIteration c).env = s.env.dropClock.dropAck := by
  obtain ⟨w, -, hbegin⟩ := s.beginIteration_eq c
  rw [hbegin]
  simp

theorem State.busTrace_append {s t : State} {es : List Event} (h : t.trace = s.trace ++ es) :
    t.busTrace = s.busTrace ++ es.filter Event.isBus := by
  rw [State.busTrace, h, List.filter_append]
  rfl

/-- A port answered on is the same whatever its command did before. -/
theorem Frame.modify_const {s u : State} (h : Frame s u) (q : Port) :
    u.ports.modify s.cur (fun _ => q) = s.ports.modify s.cur (fun _ => q) := by
  refine List.ext_getElem (by simp [h.len]) fun p hu hs => ?_
  rw [List.getElem_modify, List.getElem_modify]
  split
  next => rfl
  next hp =>
    rw [List.length_modify] at hu hs
    have hother := h.other p (Ne.symm hp)
    rwa [List.getElem?_eq_getElem hu, List.getElem?_eq_getElem hs, Option.some_inj] at hother

/-- The writes of a coil update with the table's pattern at an index (R162, R164). -/
def indexWrites (p : Params) (i : Fin 4) : List RegWrite := coilWrites p.wiring p.coilTable[i]

/-- The writes of iteration j + 1 of a STEP that starts in s (R180 step 3, R192). -/
def iterationWrites (dir : Dir) (s : State) (j : Nat) : List RegWrite :=
  indexWrites s.params ((fun k => nextIndex k dir)^[j + 1] s.stepIndex)

@[simp] theorem iterationWrites_length (dir : Dir) (s : State) (j : Nat) : (iterationWrites dir s j).length = 16 :=
  coilWrites_length _ _

/-- The events of the writes of the first j iterations. -/
def iterationsEvents (dir : Dir) (s : State) (j : Nat) : List Event :=
  (List.range j).flatMap fun k => writeEvents s.cur s.params.dev (iterationWrites dir s k)

theorem iterationsEvents_succ (dir : Dir) (s : State) (j : Nat) : iterationsEvents dir s (j + 1) =
    iterationsEvents dir s j ++ writeEvents s.cur s.params.dev (iterationWrites dir s j) := by
  simp [iterationsEvents, List.range_succ]

/-- STEP has run some segments from s, alone, and has come to u. -/
structure StepRun (dir : Dir) (n : BitVec 32) (s u : State) : Prop where
  run : ∃ m, runSegments (.step dir n) m s = .next u
  frame : Frame s u
  writes : Writes (.step dir n) s u

section

variable {dir : Dir} {n : BitVec 32} {s u v : State} {c d : Ctx} {j k : Nat}

theorem StepRun.refl (dir : Dir) (n : BitVec 32) (s : State) : StepRun dir n s s :=
  ⟨⟨0, rfl⟩, .refl s, (Quiet.refl _ s).writes⟩

/-- One more segment. -/
theorem StepRun.exec (h : StepRun dir n s u) (hexec : exec (.step dir n) u = .next v) : StepRun dir n s v := by
  obtain ⟨m, hm⟩ := h.run
  obtain ⟨c, hc⟩ := exec_ctx hexec
  exact ⟨⟨m + 1, runSegments_succ hm hexec⟩, h.frame.trans (exec_frame hexec),
    h.writes.trans (exec_segment hc hexec).writes⟩

/-- At the top of the loop (R180): j iterations of the STEP from s are done, with their writes. -/
structure StepTop (dir : Dir) (n : BitVec 32) (s : State) (j : Nat) (u : State) (d : Ctx) : Prop where
  params : u.params = s.params
  cur : u.cur = s.cur
  ctx : u.ctx? = some d
  direction : d.dir = dir
  count : d.count = n
  done : d.i = j
  index : u.stepIndex = (fun k => nextIndex k dir)^[j] s.stepIndex
  cancel : u.cancel = false
  acks : u.env.AllOk (16 * (n.toNat - j))
  bus : u.busTrace = s.busTrace ++ iterationsEvents dir s j

/-- Inside iteration j + 1 of the STEP from s, after k of its closing actions: sixteen writes, and perhaps the wait. -/
structure StepReached (dir : Dir) (n : BitVec 32) (s : State) (j k : Nat) (u : State) (c : Ctx) : Prop where
  run : StepRun dir n s u
  ctx : u.ctx? = some c
  pos : c.pos = k
  answer : c.answer ≠ .err
  direction : c.dir = dir
  count : c.count = n
  done : c.i = j
  timed : c.Timed u
  index : u.stepIndex = (fun k => nextIndex k dir)^[j + 1] s.stepIndex
  cancel : u.cancel = false
  acks : u.env.AllOk (16 * (n.toNat - j) - min k 16)
  bus : u.busTrace = s.busTrace ++
    (iterationsEvents dir s j ++ writeEvents s.cur s.params.dev ((iterationWrites dir s j).take k))
  pulse : k = 17 → u.pulsing = false

/-- The iteration begins: the index advances and its first write is made (R180 steps 1 to 3). -/
theorem StepTop.begin (h : StepTop dir n s j u d) (hmore : j < n.toNat)
    (hrun : StepRun dir n s (u.beginIteration d)) (htimed : (u.beginIteration d).RunsTimed) :
    ∃ c, StepReached dir n s j 1 (u.beginIteration d) c := by
  obtain ⟨w, hw, -, hcancel, -, hindex, -, htrace, hctx⟩ := State.beginIteration_spec h.ctx d
  have hnew : nextIndex u.stepIndex d.dir = (fun k => nextIndex k dir)^[j + 1] s.stepIndex := by
    rw [h.index, h.direction, Function.iterate_succ_apply']
  obtain ⟨hok, hleft⟩ := h.acks.dropClock.next (by omega)
  have hw' : (iterationWrites dir s j)[0]? = some w := by
    have hw' : (indexWrites u.params (nextIndex u.stepIndex d.dir))[0]? = some w := hw
    rwa [h.params, hnew] at hw'
  refine ⟨_, hrun, hctx, rfl, by rw [hok]; exact nofun, h.direction, h.count, h.done, htimed.loop _ hctx,
    hindex.trans hnew, hcancel.trans h.cancel, ?acks, ?bus, nofun⟩
  case acks =>
    rw [State.beginIteration_env]
    exact hleft
  case bus =>
    obtain ⟨hlt, rfl⟩ := List.getElem?_eq_some_iff.1 hw'
    rw [State.busTrace_append htrace, h.bus, writeEvents_take_succ _ _ hlt, hok, h.cur, h.params, List.append_assoc]
    rfl

/-- The pattern of the iteration under way is the table's at the current index (log 14). -/
theorem StepReached.stepWrites (h : StepReached dir n s j k u c) : u.stepWrites = iterationWrites dir s j := by
  have hwrites : u.stepWrites = indexWrites u.params u.stepIndex := rfl
  rw [hwrites, h.run.frame.params, h.index, iterationWrites]

/-- A later write of the iteration. -/
theorem StepReached.write (h : StepReached dir n s j k u c) (h1 : 1 ≤ k) (h15 : k ≤ 15) :
    ∃ u' c', StepReached dir n s j (k + 1) u' c' := by
  have hk : k < (iterationWrites dir s j).length := by rw [iterationWrites_length]; omega
  have hmore : j < n.toNat := h.count ▸ h.done ▸ h.timed.more
  have hpos := h.pos
  have hexec : exec (.step dir n) u =
      .next (u.busWrite (iterationWrites dir s j)[k].reg (iterationWrites dir s j)[k].val) := by
    rw [exec_step_answered h.ctx (by omega) (by omega) h.answer, h.stepWrites, hpos, issue_lt hk]
  obtain ⟨hok, hleft⟩ := h.acks.next (by omega)
  have hctxAt : u.ctxAt u.cur = some c := h.ctx
  have hctx : (u.busWrite (iterationWrites dir s j)[k].reg (iterationWrites dir s j)[k].val).ctx? =
      some (c.tookAck .ok) := by simp [State.ctx?, hctxAt, hok]
  have htimed := exec_step_runsTimed h.ctx (fun _ => h.timed) hexec
  refine ⟨_, _, h.run.exec hexec, hctx, congrArg (· + 1) hpos, nofun, h.direction, h.count, h.done, htimed.loop _ hctx,
    ?index, ?cancel, ?acks, ?bus, fun h17 => by omega⟩
  case index => simpa using h.index
  case cancel => simpa using h.cancel
  case acks =>
    have hmin : min (k + 1) 16 = min k 16 + 1 := by omega
    rwa [State.busWrite_env, hmin, Nat.sub_add_eq]
  case bus =>
    rw [State.busTrace_append (State.busWrite_trace ..), h.bus, writeEvents_take_succ _ _ hk, hok,
      h.run.frame.cur, h.run.frame.params, List.append_assoc, List.append_assoc]
    rfl

/-- All sixteen writes of the iteration. -/
theorem StepReached.writes (h : StepReached dir n s j 1 u c) : ∃ u' c', StepReached dir n s j 16 u' c' := by
  have hall {k : Nat} (h1 : 1 ≤ k) (h16 : k ≤ 16) : ∃ u' c', StepReached dir n s j k u' c' := by
    induction k, h1 using Nat.le_induction with
    | base => exact ⟨u, c, h⟩
    | succ k h1 ih =>
      obtain ⟨u', c', h'⟩ := ih (by omega)
      exact h'.write h1 (by omega)
  exact hall (by decide) le_rfl

/-- The bus trace after all the writes of the iteration. -/
theorem StepReached.bus_full (h : StepReached dir n s j k u c) (hk : 16 ≤ k) :
    u.busTrace = s.busTrace ++ iterationsEvents dir s (j + 1) := by
  rw [h.bus, List.take_of_length_le (by simpa using hk), iterationsEvents_succ]

/-- STEP run alone from s completes, with n coil updates and the OK response (R180, R181, R188, R192). -/
def StepCompletes (dir : Dir) (n : BitVec 32) (s : State) : Prop :=
  ∃ k t duration, runSegments (.step dir n) k s = .next t ∧
    t.stepIndex = (fun j => nextIndex j dir)^[n.toNat] s.stepIndex ∧
    t.seqState = .idle ∧ t.cancel = false ∧ t.pulsing = false ∧
    t.ready = s.ready ∧ t.throttle = s.throttle ∧ t.faulted = s.faulted ∧
    t.busTrace = s.busTrace ++ iterationsEvents dir s n.toNat ∧
    t.ports = s.ports.modify s.cur (fun _ => ⟨false, none, some ⟨.ok, .stepped n dir duration false⟩⟩) ∧
    n.toNat * s.params.interval ≤ duration

section

variable {t : Rat} (h : StepReached dir n s j k u c) (hk : 16 ≤ k) (hover : IterationOver u c t v)
  (hd : v.ctx? = some d) (hsame : d.dir = c.dir ∧ d.count = c.count ∧ d.i = c.i)
  (hexec : exec (.step dir n) u = .next (v.endIteration c t))

include h hk hover hd hsame

/-- The iteration ends at time t, in the block v with context d: the loop is at its top again. -/
theorem StepReached.top : StepTop dir n s (j + 1) (v.modCtx (Ctx.endIteration t)) (d.endIteration t) := by
  obtain ⟨hdir, hcount, hi⟩ := hsame
  have hbus : v.busTrace = u.busTrace := by
    rw [State.busTrace_append hover.trace]
    exact List.append_nil _
  exact
    { ctx := State.ctx?_modCtx hd _
      params := hover.params.trans h.run.frame.params
      cur := hover.cur.trans h.run.frame.cur
      direction := hdir.trans h.direction
      count := hcount.trans h.count
      done := congrArg (· + 1) (hi.trans h.done)
      index := hover.stepIndex.trans h.index
      cancel := hover.cancel.trans h.cancel
      acks := by
        rw [State.modCtx_env, hover.env]
        exact h.acks.dropClock.mono (by omega)
      bus := hbus.trans (h.bus_full hk) }

include hexec

/-- The next iteration begins in the same segment. -/
theorem StepReached.next (hmore : j + 1 < n.toNat) : ∃ u' c', StepReached dir n s (j + 1) 1 u' c' := by
  have htop := h.top hk hover hd hsame
  obtain ⟨hdir, -, -⟩ := hsame
  have hmore' : (c.endIteration t).i < (c.endIteration t).count.toNat := by
    rw [Ctx.endIteration_i, Ctx.endIteration_count, h.done, h.count]
    exact hmore
  have hloop : v.endIteration c t = (v.modCtx (Ctx.endIteration t)).beginIteration (d.endIteration t) := by
    rw [State.endIteration, State.loopTop_more hmore' htop.cancel, State.beginIteration, State.beginIteration,
      Ctx.endIteration_dir, Ctx.endIteration_dir, hdir]
  rw [hloop] at hexec
  exact ⟨_, htop.begin hmore (h.run.exec hexec) (exec_step_runsTimed h.ctx (fun _ => h.timed) hexec)⟩

omit hd hsame

/-- The last iteration ends the loop. -/
theorem StepReached.completes (hlast : j + 1 = n.toNat) : StepCompletes dir n s := by
  obtain ⟨t0, hfirst, -⟩ := h.timed.start
  have hsteps : BitVec.ofNat 32 (c.endIteration t).i = n := by
    rw [Ctx.endIteration_i, h.done, hlast]
    exact BitVec.ofNat_toNat ..
  rw [State.endIteration_last hfirst (by rw [h.done, h.count, hlast]) v] at hexec
  have hrun := h.run.exec hexec
  have writes := hrun.writes
  obtain ⟨m, hm⟩ := hrun.run
  obtain ⟨hseq, hcancel, hindex, htrace, hports, hpulse⟩ := hover.endStep (c.endIteration t) (t - t0) false
    (r := ⟨.ok, .stepped n dir (t - t0) false⟩) (by rw [hsteps, Ctx.endIteration_dir, h.direction])
  refine ⟨m, _, t - t0, hm, ?index, hseq, hcancel, ?pulsing, writes.ready rfl, writes.throttle rfl, writes.faulted rfl,
    ?bus, ?ports, ?duration⟩
  case index => rw [hindex, h.index, hlast]
  case pulsing =>
    rw [hpulse]
    split
    next h17 => exact h.pulse (h.pos.symm.trans h17)
    next => rfl
  case bus =>
    rw [State.busTrace_append htrace, h.bus_full hk, hlast]
    exact List.append_nil _
  case ports => rw [hports, h.run.frame.cur, h.run.frame.modify_const]
  case duration =>
    obtain ⟨tr, ev, hev, hreport⟩ := (exec_step_runsTimed h.ctx (fun _ => h.timed) hexec).report
    rw [htrace, List.append_cons] at hev
    obtain ⟨-, hlast⟩ := List.append_inj' hev rfl
    rw [← List.singleton_inj.1 hlast, hrun.frame.params] at hreport
    exact hreport rfl

end

/-- What the end of iteration j + 1 leads to: the next iteration, or the end of the loop. -/
def IterationLeadsOn (dir : Dir) (n : BitVec 32) (s : State) (j : Nat) : Prop :=
  (j + 1 < n.toNat → ∃ u c, StepReached dir n s (j + 1) 1 u c) ∧ (j + 1 = n.toNat → StepCompletes dir n s)

/-- After the iteration's wait. -/
theorem StepReached.resumed (h : StepReached dir n s j 17 u c) : IterationLeadsOn dir n s j := by
  have hexec : exec (.step dir n) u = .next ((u.resume c).endIteration c (u.resume c).lastClock) := by
    rw [exec_rest h.ctx (by rw [h.pos]; decide), restSegment_step, if_pos h.pos]
  have hover : IterationOver u c _ _ := .resume h.ctx h.pos
  have hctx : (u.resume c).ctx? = some c.resumed := State.ctx?_modCtx (s := u.readClockFrom _) h.ctx Ctx.resumed
  exact ⟨h.next (by decide) hover hctx ⟨rfl, rfl, rfl⟩ hexec, h.completes (by decide) hover hexec⟩

/-- The iteration's wait, where less than an interval has elapsed. -/
theorem StepReached.wait (h : StepReached dir n s j 16 u c)
    (hexec : exec (.step dir n) u = .next (u.endPulse.readClock.waitUntil (c.tS + u.params.interval))) :
    ∃ u' c', StepReached dir n s j 17 u' c' := by
  have hctxAt : u.ctxAt u.cur = some c := h.ctx
  have hctx : (u.endPulse.readClock.waitUntil (c.tS + u.params.interval)).ctx? =
      some (c.waiting (c.tS + u.params.interval)) := by simp [State.ctx?, hctxAt]
  have htrace : (u.endPulse.readClock.waitUntil (c.tS + u.params.interval)).trace = u.trace ++
      [.clock u.cur (u.clockValue 0), .wait u.cur (c.tS + u.params.interval)] := by simp
  have htimed := exec_step_runsTimed h.ctx (fun _ => h.timed) hexec
  refine ⟨_, _, h.run.exec hexec, hctx, congrArg (· + 1) h.pos, nofun, h.direction, h.count, h.done,
    htimed.loop _ hctx, ?index, ?cancel, ?acks, ?bus, fun _ => ?pulse⟩
  case index => simpa using h.index
  case cancel => simpa using h.cancel
  case acks =>
    rw [State.waitUntil_env, State.readClock_env]
    exact h.acks.dropClock.mono (by omega)
  case bus =>
    rw [State.busTrace_append htrace, h.bus_full le_rfl, iterationsEvents_succ, List.take_of_length_le (by simp)]
    exact List.append_nil _
  case pulse => simp

/-- Step 4 of the iteration: a wait, or its end at once (R180). -/
theorem StepReached.measured (h : StepReached dir n s j 16 u c) : IterationLeadsOn dir n s j := by
  have hpos := h.pos
  have hexec : exec (.step dir n) u = .next (u.measure c) := by
    rw [exec_step_answered h.ctx (by omega) (by omega) h.answer, issue_ge (u.stepWrites_length.trans hpos.symm).le]
  by_cases hwait : u.readClock.lastClock - c.tS < u.params.interval
  · have hmeasure : u.measure c = u.endPulse.readClock.waitUntil (c.tS + u.params.interval) := if_pos hwait
    obtain ⟨u', c', hreached⟩ := h.wait (hmeasure ▸ hexec)
    exact hreached.resumed
  · have hmeasure : u.measure c = u.endPulse.readClock.endIteration c u.readClock.lastClock := if_neg hwait
    have hover : IterationOver u c u.readClock.lastClock u.endPulse.readClock := .measured h.ctx hpos
    rw [hmeasure] at hexec
    exact ⟨h.next le_rfl hover h.ctx ⟨rfl, rfl, rfl⟩ hexec, h.completes le_rfl hover hexec⟩

/-- A whole iteration: its writes, then step 4. -/
theorem StepReached.leadsOn (h : StepReached dir n s j 1 u c) : IterationLeadsOn dir n s j := by
  obtain ⟨u', c', hfull⟩ := h.writes
  exact hfull.measured

/-- Iteration j + 1 of a STEP from a ready block with nothing in its way begins (R180, R190). -/
theorem stepReached_iteration (hc : s.ctx? = some c) (hpos : c.pos = 0) (hready : s.ready = true)
    (hidle : s.seqState = .idle) (hpulse : s.pulsing = false) (hacks : s.env.AllOk (16 * n.toNat)) (h : j < n.toNat) :
    ∃ u d, StepReached dir n s j 1 u d := by
  induction j with
  | zero =>
    have hn : n ≠ 0 := by
      rintro rfl
      exact absurd h (by decide)
    have hexec := exec_step_first (dir := dir) (count := n) hc hpos
    rw [stepFirst_begins c hready hidle hpulse hn] at hexec
    have htop : StepTop dir n s 0 (s.beginLoop.modCtx (Ctx.startLoop dir n)) (c.startLoop dir n) :=
      { ctx := State.ctx?_modCtx (s := s.beginLoop) hc _
        params := rfl, cur := rfl, direction := rfl, count := rfl, done := rfl, index := rfl, cancel := rfl, acks := hacks
        bus := (List.append_nil _).symm }
    exact ⟨_, htop.begin h ((StepRun.refl dir n s).exec hexec)
      (exec_step_runsTimed hc (fun h0 => absurd hpos h0.ne') hexec)⟩
  | succ j ih =>
    obtain ⟨u, d, hreached⟩ := ih (by omega)
    obtain ⟨hnext, -⟩ := hreached.leadsOn
    exact hnext h

/-- A STEP of no iterations completes at once (R180). -/
theorem stepCompletes_zero (dir : Dir) (hc : s.ctx? = some c) (hpos : c.pos = 0) (hready : s.ready = true)
    (hidle : s.seqState = .idle) (hpulse : s.pulsing = false) : StepCompletes dir 0 s := by
  have hexec := exec_step_first (dir := dir) (count := 0) hc hpos
  rw [stepFirst_zero dir c hready hidle hpulse] at hexec
  refine ⟨1, _, 0, runSegments_succ (u := s) rfl hexec, rfl, hidle, rfl, hpulse, rfl, rfl, rfl, ?_, rfl, by simp⟩
  exact State.busTrace_append (State.respond_trace ..)

end

/-- Settles O49: an induction over the iterations, then the end of the last. -/
theorem stepLoopCompletes : Obligations.StepLoopCompletes := by
  intro dir n s c hc hpos hready hidle hpulse hok henough
  suffices h : StepCompletes dir n s from h
  rcases Nat.eq_zero_or_pos n.toNat with hn | hn
  · obtain rfl : n = 0 := BitVec.eq_of_toNat_eq hn
    exact stepCompletes_zero dir hc hpos hready hidle hpulse
  · obtain ⟨u, d, hreached⟩ := stepReached_iteration (dir := dir) (j := n.toNat - 1) hc hpos hready hidle hpulse
      ⟨hok, henough⟩ (by omega)
    obtain ⟨-, hlast⟩ := hreached.leadsOn
    exact hlast (by omega)

end Sys2Proof.Machine

/-! PROOFS. The statements of 60_exceptions.md: the errors of segment 1 in their order (R201 to R204, R208), SETFREQ's
faults (R206), the clock and waits (R219, R220). -/

namespace Sys2Proof.Machine

/-! ### The clock and waits (R219, R220) -/

/-- A queued draw that meets its bounds is the reading (R219, R220). -/
theorem State.readClockFrom_of_draw {s : State} {b t : Rat} {ts : List Rat} (hc : s.env.clocks = t :: ts) (hb : b ≤ t)
    (hl : s.lastClock ≤ t) (h0 : 0 ≤ t) : s.readClockFrom b = { s with
      lastClock := t, trace := s.trace ++ [.clock s.cur t], env := { s.env with clocks := ts } } := by
  have hv : s.clockValue b = t := State.clockValue_of_draw (by simp [Env.nextClock, hc]) hb hl h0
  have he : s.env.dropClock = { s.env with clocks := ts } := by simp [Env.dropClock, hc]
  rw [State.readClockFrom, hv, he]
  rfl

/-- Settles O13: the bounds of `clockValue`, and a queued draw that meets them. -/
theorem readClockIsMonotone : Obligations.ReadClockIsMonotone := by
  refine ⟨fun s => ?_, fun s t ts hl h0 hc => State.readClockFrom_of_draw hc h0 hl h0⟩
  obtain ⟨-, hlast, hnonneg⟩ := s.clockValue_ge 0
  rw [State.readClock_lastClock, State.readClock_trace]
  exact ⟨hlast, hnonneg, rfl⟩

/-- Settles O14: a wait is one event and an update of the running context; the reading after it is bounded by the
deadline. -/
theorem waitsAreLowerBounds : Obligations.WaitsAreLowerBounds := by
  intro s c t hc
  refine ⟨State.modCtx_of_ctx (s := s.emit (.wait s.cur t)) hc _, ?enabled, fun c' hd => ?bounds,
    fun c' u us hd htu hl h0 hu => ?draw⟩
  case enabled => simp [State.enabled, ← State.ctx?_eq, hc]
  case bounds =>
    obtain ⟨hdeadline, hlast, -⟩ := s.clockValue_ge t
    rw [State.resume_lastClock, State.resume_trace, hd]
    exact ⟨hdeadline, hlast, rfl⟩
  case draw =>
    rw [State.resume_lastClock, hd]
    exact State.clockValue_of_draw (by simp [Env.nextClock, hu]) htu hl h0

/-! ### The errors of segment 1 (R201 to R204, R208) -/

/-- Settles O7: the pick of a port whose word is illegal. -/
theorem illegalWordIsAnsweredInSegmentOne : Obligations.IllegalWordIsAnsweredInSegmentOne := by
  intro s p rest c e hturns hctx hcmd hdec
  have hdrop : (s.setEnv { s.env with turns := rest }).ctxAt p = some c := hctx
  rw [step_of_run_turn hturns, State.fetchOn_of_illegal hdrop hcmd hdec]
  rfl

/-- The last event of the trace is a NOT_READY response. -/
def State.EndsNotReady (t : State) : Prop := ∃ p d, t.trace.getLast? = some (.respond p ⟨.notReady, d⟩)

/-- A segment ends so only where its closing action is that response. -/
theorem Closing.not_endsNotReady {a : Closing} (h : ∀ d, a ≠ .respond .notReady d) (u : State) :
    ¬ (a.run u).EndsNotReady := by
  rintro ⟨p, d, hlast⟩
  rw [Closing.run_trace, List.getLast?_concat] at hlast
  cases a with
  | respond status data =>
    simp only [Closing.event, Option.some.injEq, Event.respond.injEq, Response.mk.injEq] at hlast
    obtain ⟨-, rfl, -⟩ := hlast
    exact h data rfl
  | _ => simp [Closing.event] at hlast

theorem State.not_endsNotReady_busWrite (r v : Byte) (u : State) : ¬ (u.busWrite r v).EndsNotReady :=
  Closing.not_endsNotReady (a := .write r v) nofun u

theorem State.not_endsNotReady_busRead (r : Byte) (u : State) : ¬ (u.busRead r).EndsNotReady :=
  Closing.not_endsNotReady (a := .read r) nofun u

theorem State.not_endsNotReady_waitFor (d : Rat) (u : State) : ¬ (u.waitFor d).EndsNotReady :=
  Closing.not_endsNotReady (a := .wait (u.readClock.lastClock + d)) nofun u.readClock

theorem State.not_endsNotReady_respond {status : Status} (h : status ≠ .notReady) (data : RespData) (u : State) :
    ¬ (u.respond status data).EndsNotReady :=
  Closing.not_endsNotReady (a := .respond status data) (fun _ e => h (Closing.respond.inj e).1) u

/-- The failure exit reports a transport failure (R205). -/
theorem not_endsNotReady_answered {c : Ctx} {data : RespData} {u rest : State} (h : ¬ rest.EndsNotReady) :
    ¬ (answered c (u.busFail c data) rest).EndsNotReady := by
  unfold answered
  split
  · exact State.not_endsNotReady_respond (by cases h : c.wrote <;> simp [failStatus, h]) data u
  · exact h

theorem not_endsNotReady_issue {ws : List RegWrite} {k : Nat} {done : State → State} {u : State}
    (h : ¬ (done u).EndsNotReady) : ¬ (issue ws k done u).EndsNotReady := by
  unfold issue
  split
  · exact State.not_endsNotReady_busWrite _ _ u
  · exact h

theorem not_endsNotReady_initSegment (c : Ctx) (s : State) : ¬ (initSegment c s).EndsNotReady := by
  unfold initSegment
  split
  next => exact State.not_endsNotReady_busWrite _ _ s.clearReady
  next => exact not_endsNotReady_answered (State.not_endsNotReady_waitFor _ s)
  next => exact State.not_endsNotReady_busRead _ _
  next => exact not_endsNotReady_answered (State.not_endsNotReady_busWrite _ _ _)
  next => exact not_endsNotReady_answered (State.not_endsNotReady_waitFor _ s)
  next => exact State.not_endsNotReady_busRead _ _
  next =>
    refine not_endsNotReady_answered (not_endsNotReady_issue ?_)
    exact State.not_endsNotReady_respond (status := .ok) nofun _ _

/-- INIT, SWRESET and STOP close no segment with NOT_READY (R202). -/
theorem exec_not_endsNotReady {i : Instr} {s t : State} (hi : i.needsReady = false) (h : exec i s = .next t) :
    ¬ t.EndsNotReady := by
  cases i
  case init =>
    obtain ⟨c, -, rfl⟩ := onCtx_next_iff.1 h
    exact not_endsNotReady_initSegment c s
  case swreset =>
    obtain ⟨c, -, rfl⟩ := onCtx_next_iff.1 h
    split
    next => exact Closing.not_endsNotReady (a := .send s.params.resetDev swrstByte) nofun s
    next => exact not_endsNotReady_answered (State.not_endsNotReady_respond (status := .ok) nofun _ s)
  case stop =>
    obtain ⟨c, -, rfl⟩ := onCtx_next_iff.1 h
    exact State.not_endsNotReady_respond (status := .ok) nofun _ _
  all_goals cases hi

/-- Clock readings are no responses. -/
theorem ClocksAdded.mem_respond {p q : Nat} {r : Response} {tr tr' : List Event} (h : ClocksAdded p tr tr')
    (hr : Event.respond q r ∈ tr') : Event.respond q r ∈ tr := by
  induction h with
  | none => exact hr
  | clock _ _ ih => exact ih (by simpa using hr)

/-- The one response that a segment may add to the trace is its last event (R71, R98). -/
theorem Segment.mem_respond {i : Instr} {c : Ctx} {s t : State} {p : Nat} {r : Response} (h : Segment i c s t)
    (hr : Event.respond p r ∈ t.trace) :
    Event.respond p r ∈ s.trace ∨ t.trace.getLast? = some (.respond p r) := by
  obtain ⟨a, quiet, -⟩ := h
  rw [Closing.run_trace, List.mem_append, List.mem_singleton] at hr
  rw [Closing.run_trace, List.getLast?_concat]
  exact hr.imp quiet.trace.mem_respond fun h => congrArg some h.symm

/-- Settles O36: `exec_of_not_ready`, and the last event of the commands that are not gated. -/
theorem gatedCommandsNeedReady : Obligations.GatedCommandsNeedReady := by
  refine ⟨fun i s c hc hpos hready hi => exec_of_not_ready hc hpos hready hi, fun i s t p d hi h hr => ?_⟩
  obtain ⟨c, hc⟩ := exec_ctx h
  exact ((exec_segment hc h).mem_respond hr).resolve_right fun hlast => exec_not_endsNotReady hi h ⟨p, d, hlast⟩

/-- Settles O38: the contention check of segment 1. -/
theorem stepContentionChangesNothing : Obligations.StepContentionChangesNothing := by
  intro dir count s c hc hpos hready hcon
  rw [exec_step_first hc hpos, stepFirst_contended dir count c hready hcon]
  rfl

/-- Segment 1 of a command whose operands fail their checks; SETFREQ faults instead (R204, R206). -/
theorem exec_of_invalid {i : Instr} {s : State} {c : Ctx} (hc : s.ctx? = some c) (hpos : c.pos = 0)
    (hready : s.ready = true) (hi : i.isSetfreq = false) (hv : i.operandsValid ≠ true) :
    exec i s = .next (s.respond .validation .none) := by
  cases i
  case wrch ch onTick offTick => exact (GroupCommand.wrch ch onTick offTick).exec_invalid hc hpos hready hv
  case wrall onTick offTick => exact (GroupCommand.wrall onTick offTick).exec_invalid hc hpos hready hv
  case setpin ch pin =>
    obtain ⟨onTick, offTick, h, -⟩ := GroupCommand.setpin ch pin
    exact h.exec_invalid hc hpos hready hv
  case setstr num den => exact (exec_setstr_first hc hpos hready).trans (congrArg Host.Outcome.next (if_neg hv))
  case setfreq => cases hi
  all_goals exact absurd rfl hv

/-- Settles O39: the operands of R204 are those that fail `operandsValid`. -/
theorem validationErrorsChangeNothing : Obligations.ValidationErrorsChangeNothing := by
  intro i s c hc hpos hready hbad
  obtain ⟨ch, onTick, offTick, rfl, h⟩ | ⟨onTick, offTick, rfl, h⟩ | ⟨ch, pin, rfl, h⟩ | ⟨num, den, rfl, h⟩ := hbad
  · exact exec_of_invalid hc hpos hready rfl (mt (wrch_operandsValid ch onTick offTick).1 (by omega))
  · exact exec_of_invalid hc hpos hready rfl (mt (wrall_operandsValid onTick offTick).1 (by omega))
  · exact exec_of_invalid hc hpos hready rfl (mt (validCh_iff _).1 (by omega))
  · exact exec_of_invalid hc hpos hready rfl (mt (validTick_iff _).1 (by omega))

/-! ### SETFREQ's faults (R206) -/

theorem exec_setfreq_of_pos_zero {num : BitVec 32} {den : BitVec 24} {s : State} {c : Ctx} (hc : s.ctx? = some c)
    (hpos : c.pos = 0) : exec (.setfreq num den) s = .next (setfreqFirst num den s) := by
  refine (onCtx_of_ctx hc _).trans (congrArg Host.Outcome.next ?_)
  simp only [hpos]

/-- f = 0 is the first fault of SETFREQ in a ready block (R141). -/
theorem setfreqFirst_nonpositive {num : BitVec 32} (den : BitVec 24) {s : State} (hready : s.ready = true)
    (hnum : num = 0) : setfreqFirst num den s = s.fault .freqNonpositive := by
  rw [setfreqFirst, gated_ready hready, if_pos hnum]

/-- A prescale that is no byte is the second (R141). -/
theorem setfreqFirst_prescaleRange {num : BitVec 32} {den : BitVec 24} {s : State} (hready : s.ready = true)
    (hnum : num ≠ 0) (hrange : ¬(0 ≤ prescaleOf (freqOperand num den) ∧ prescaleOf (freqOperand num den) ≤ 255)) :
    setfreqFirst num den s = s.fault .prescaleRange := by
  rw [setfreqFirst, gated_ready hready, if_neg hnum, if_pos (by omega)]

/-- A block with a fault mark is not final (R76). -/
theorem State.not_final_of_mark {s : State} {reason : FaultReason} (h : s.faulted.has reason = true) :
    s.final = false := by
  have hne : s.faulted ≠ FaultSet.empty := by
    intro he
    rw [he] at h
    cases reason <;> cases h
  simp [State.final, hne]

/-- No step clears a fault mark (R35). -/
theorem State.mark_step {s t : State} {reason : FaultReason} (h : s.faulted.has reason = true)
    (hstep : step s = .next t) : t.faulted.has reason = true := by
  cases step_cases hstep with
  | pass | accept | illegal => exact h
  | segment e hctx hi hrun => exact (exec_segment (State.pick_ctx? hctx e _) hrun).writes.marks reason h

/-- A step leaves a busy port with no segment to run as it is (R70, R206). -/
theorem State.port_step_of_stuck {s t : State} {p : Nat} {q : Port} (hq : s.ports[p]? = some q) (hbusy : q.busy = true)
    (hctx : q.ctx = none) (hstep : step s = .next t) : t.ports[p]? = some q := by
  have hne {n : Nat} {c : Ctx} (hc : s.ctxAt n = some c) : n ≠ p := by
    rintro rfl
    simp [State.ctxAt, hq, hctx] at hc
  rw [← hq]
  cases step_cases hstep with
  | pass => rfl
  | @accept n w rest hturn hacc =>
    have hn : n ≠ p := by
      rintro rfl
      obtain ⟨⟨q', hq', hidle⟩, -⟩ := (s.accepts_iff n).1 hacc
      obtain rfl : q = q' := Option.some.inj (hq.symm.trans hq')
      simp [hbusy] at hidle
    exact List.getElem?_modify_ne _ _ hn
  | illegal e hc => exact List.getElem?_modify_ne _ _ (hne hc)
  | segment e hc hi hrun =>
    exact ((exec_frame hrun).other p (hne hc).symm).trans (List.getElem?_modify_ne _ _ (hne hc))

/-- Settles O40: the two tests of SETFREQ's segment 1, then what a step keeps of a mark and of a port that is stuck. -/
theorem setfreqFaultsOutsideItsRange : Obligations.SetfreqFaultsOutsideItsRange := by
  refine ⟨fun num den s c reason hc hpos hready _ hbad => ⟨s.fault reason, ?exec, rfl, ?marked⟩,
    fun s t reason hstep h => ⟨State.mark_step h hstep, State.not_final_of_mark (State.mark_step h hstep)⟩,
    fun s t p q hq hbusy hctx hstep => State.port_step_of_stuck hq hbusy hctx hstep⟩
  case exec =>
    rw [exec_setfreq_of_pos_zero hc hpos]
    obtain ⟨hnum, rfl⟩ | ⟨hnum, rfl, hrange⟩ := hbad
    · rw [setfreqFirst_nonpositive den hready hnum]
    · rw [setfreqFirst_prescaleRange hready hnum hrange]
  case marked =>
    have hmark : (s.fault reason).faulted.has reason = true := by
      rw [State.fault_faulted, FaultSet.has_add_eq]
      simp
    exact ⟨hmark, by simp [State.enabled], State.not_final_of_mark hmark⟩

end Sys2Proof.Machine

/-! PROOFS. The statement of 70_reset_and_hazards.md: the values after block reset (R42, R240). -/

namespace Sys2Proof.Machine

/-- Every port of a block after reset is free, with no response (R31, R42). -/
theorem State.port_of_mem_resetWith {p : Params} {clock : Rat} {q : Port} (h : q ∈ (State.resetWith p clock).ports) :
    q = Port.reset :=
  (List.mem_replicate.1 h).2

/-- Settles O51: each element by `State.resetWith`; the ports are NUM_PORTS free ones, and `refused` is R207's check. -/
theorem resetValues : Obligations.ResetValues := by
  intro p clock s
  have hlength : s.ports.length = p.numPorts := List.length_replicate
  have hfree (q : Port) (hq : q ∈ s.ports) : q.busy = false ∧ q.ctx = none ∧ q.resp = none := by
    rw [State.port_of_mem_resetWith hq]
    exact ⟨rfl, rfl, rfl⟩
  have hrefused : s.refused = true ↔ p.ok = false :=
    (State.resetWith_refused_iff p clock).trans (Bool.not_eq_true _).to_iff
  exact ⟨rfl, rfl, rfl, rfl, rfl, rfl, hlength, hfree, rfl, rfl, hrefused, rfl, rfl⟩

end Sys2Proof.Machine
